-- ==== Sys2Proof/Word.lean ====
section
/-! DEFINITION. Word types of SPARC-V9 (spec/00_scope.md section 5). -/

namespace Sys2Proof

/-- A 64-bit integer register, address or control register (00_scope.md section 5). -/
abbrev Word := BitVec 64

/-- The byte, the smallest addressable unit of memory (20_memory.md R80). -/
abbrev Byte := BitVec 8

/-- A 32-bit instruction word (30_encoding.md R120). -/
abbrev IWord := BitVec 32

/-- A 5-bit register field, r[0..31] of the current window (10_state.md R21), or a floating-point
register field (10_state.md R34). -/
abbrev Reg := BitVec 5

end Sys2Proof
end

