-- ==== Sys2Proof/Config.lean ====
section
/-! DEFINITION. The implementation's open parameters (spec/00_scope.md section 4,
92_eei_decisions.md), their legal ranges, and the free values the spec leaves undefined. -/

namespace Sys2Proof.Config

/-- The parameters the source leaves to the implementation (00_scope.md section 4). They are plain
data of the state, so that a statement about every state holds for every implementation; no
instruction changes them. -/
structure Params where
  /-- NWINDOWS, the number of register windows, 3..32 (D2). -/
  nwindows : Nat
  /-- MAXTL, the number of trap levels, 4..7 (D16). -/
  maxtl : Nat
  /-- WINREG_BITS, the implemented width of the five window registers (impl. dep. #126, D3). -/
  winregBits : Nat
  /-- PID1_IMPL: PSTATE bit 11 is implemented (impl. dep. #127, D4). -/
  pid1 : Bool
  /-- PID0_IMPL: PSTATE bit 10 is implemented (impl. dep. #127, D4). -/
  pid0 : Bool
  /-- TININESS_AFTER_ROUNDING (D5). -/
  tininessAfterRounding : Bool
  /-- RSTVaddr, the base of the RED_state trap table, low 8 bits zero (R421, D12). -/
  rstvaddr : Word
  /-- VER.manuf (R43). -/
  verManuf : BitVec 16
  /-- VER.impl (R43). -/
  verImpl : BitVec 16
  /-- VER.mask (R43). -/
  verMask : BitVec 8
  deriving DecidableEq, Repr

/-- The ranges the spec gives the parameters (00_scope.md section 4, R44, R421). -/
abbrev Params.wf (p : Params) : Prop :=
  3 ≤ p.nwindows ∧ p.nwindows ≤ 32 ∧ 4 ≤ p.maxtl ∧ p.maxtl ≤ 7 ∧
    p.nwindows ≤ 2 ^ p.winregBits ∧ p.winregBits ≤ 5 ∧ p.rstvaddr.extractLsb' 0 8 = 0

/-- The parameters of the machine after reset. DESIGN CHOICE (log 1): the spec names no
implementation; the values are those its examples use where it has any (NWINDOWS = 8 in R311,
RSTVADDR in R421). Unsafe: a statement about State.reset holds for this implementation only. -/
def Params.initial : Params where
  nwindows := 8
  maxtl := 4
  winregBits := 5
  pid1 := false
  pid0 := false
  tininessAfterRounding := false
  rstvaddr := 0xFFFFFFFFF0000000
  verManuf := 0
  verImpl := 0
  verMask := 0

/-- The value PSTATE.TLE takes at the n-th draw (60_exceptions.md R374 "PSTATE.TLE <-- undefined",
D7). Free: nothing constrains it (log 9). -/
opaque freeTle : Nat → Bool

/-- The values PSTATE.PID1 and PSTATE.PID0 take at the n-th draw, where they are implemented
(10_state.md R58 "unspecified"). Free (log 9). -/
opaque freePid : Nat → BitVec 2

/-- By how much the TICK counter has advanced at the n-th draw since it was last read or written
(70_reset_and_hazards.md R428, D30). Free (log 10). -/
opaque freeTickElapsed : Nat → BitVec 63

/-- The priority number of implementation_dependent_exception_n, which the implementation gives
(60_exceptions.md R366 "implementation-dependent"). Free (log 37). -/
opaque implPriority : BitVec 5 → Nat

end Sys2Proof.Config
end

