-- ==== Sys2Proof/Machine/State.lean ====
section
/-! DEFINITION. The machine's state as plain data (spec/10_state.md), the reasons a step can stop, and
the state right after power-on reset (10_state.md R58, 70_reset_and_hazards.md R423). -/

namespace Sys2Proof.Machine

open Sys2Proof.Config

/-- Memory: (address, byte) pairs in canonical form (see `Memory.wf`), one storage for every address
space identifier (20_memory.md R85, R95). -/
abbrev Memory := List Host.Cell

/-- What a byte of memory that nothing has written reads as. DESIGN CHOICE (log 6): the spec gives no
value ("all of memory holds an unspecified value", 70_reset_and_hazards.md R423). Unsafe. -/
def initialByte : Byte := 0

/-- The canonical form: addresses strictly rising and inside the 64-bit address space, and no entry
equal to what an unlisted address reads as. -/
def Memory.wf : Memory → Bool
  | [] => true
  | (a, b) :: m =>
    decide (a < 2 ^ 64) && decide (b ≠ initialByte) &&
      (match m with
        | [] => true
        | (a', _) :: _ => decide (a < a')) && Memory.wf m

/-- A range of addresses: base, base + 1, ..., base + size - 1. -/
structure Range where
  base : Nat
  size : Nat
  deriving DecidableEq, Repr

/-- The launch contract of 92_eei_decisions.md D20; no instruction changes it (log 7). -/
structure Launch where
  /-- The addresses that exist (D12). -/
  extent : List Range
  /-- The program text: the only addresses that are fetched, and immutable (D19, D27). -/
  text : List Range
  /-- The exit address: reaching it, outside the text, is the program's normal end (D20, R431). -/
  exit : Option Word
  deriving DecidableEq, Repr

/-- One level of the trap stack: TPC[n], TNPC[n], TSTATE[n], TT[n] (10_state.md R39 to R43). -/
structure TrapRegs where
  tpc : Word
  tnpc : Word
  tstate : Word
  tt : BitVec 9
  deriving DecidableEq, Repr

/-- The state of the machine. -/
structure State where
  /-- The implementation's parameters (00_scope.md section 4). -/
  params : Params
  /-- The launch contract (92_eei_decisions.md D20). -/
  launch : Launch
  /-- PC, the address of the instruction being executed (10_state.md R24). -/
  pc : Word
  /-- nPC, the address of the instruction to be executed next (R24). -/
  npc : Word
  /-- The normal globals, named when PSTATE.AG = 0; entry 0 is never read (R21, R22). -/
  globals : Vector Word 8
  /-- The alternate globals, named when PSTATE.AG = 1; entry 0 is never read (R21, R22). -/
  altGlobals : Vector Word 8
  /-- LOCAL[w][0..7] (R23); windows from NWINDOWS up do not exist and are never named (log 31). -/
  locals : Vector (Vector Word 8) 32
  /-- IN[w][0..7]: the ins of window w and the outs of window w - 1 (R23). -/
  ins : Vector (Vector Word 8) 32
  /-- CCR: xcc in bits 7:4, icc in bits 3:0, each n z v c (R27). -/
  ccr : BitVec 8
  /-- Y, ASR 0 (R31). -/
  y : BitVec 32
  /-- ASI, ASR 3 (R31). -/
  asi : BitVec 8
  /-- TICK: NPT in bit 63, the counter in bits 62:0 (R31). -/
  tick : Word
  /-- FPRS: FEF bit 2, DU bit 1, DL bit 0 (R30). -/
  fprs : BitVec 3
  /-- The floating-point storage F[0..63] (R33). -/
  f : Vector (BitVec 32) 64
  /-- FSR (R35). -/
  fsr : Word
  /-- PSTATE: PID1 PID0 CLE TLE MM RED PEF AM PRIV IE AG (R37). -/
  pstate : BitVec 12
  /-- TL, the trap level (R39). -/
  tl : BitVec 3
  /-- TPC, TNPC, TSTATE, TT for levels 1..MAXTL; entry 0 does not exist and is never named (R39). -/
  trapStack : Vector TrapRegs 8
  /-- TBA, the trap base address, bits 14:0 zero (R43). -/
  tba : Word
  /-- PIL, the processor interrupt level (R43). -/
  pil : BitVec 4
  /-- CWP, the current window pointer (R44, R46). -/
  cwp : BitVec 5
  /-- CANSAVE (R44, R46). -/
  cansave : BitVec 5
  /-- CANRESTORE (R44, R46). -/
  canrestore : BitVec 5
  /-- CLEANWIN (R44, R46). -/
  cleanwin : BitVec 5
  /-- OTHERWIN (R44, R46). -/
  otherwin : BitVec 5
  /-- WSTATE: OTHER in bits 5:3, NORMAL in bits 2:0 (R43). -/
  wstate : BitVec 6
  /-- The SIR_enable control flag (R48, D10). -/
  sirEnable : Bool
  /-- The processor is in error_state (60_exceptions.md R361, R375). -/
  errorState : Bool
  /-- The model's own field: how many free values have been drawn (log 9, log 10). -/
  draws : Nat
  /-- Memory (20_memory.md R85). -/
  mem : Memory
  deriving DecidableEq, Repr

/-- Why the machine stops with a fault. -/
inductive Fault where
  /-- A step in error_state: the machine is stuck (60_exceptions.md R375). Raised by `step`. Safe. -/
  | stuckInErrorState
  /-- A fetch, load, store or atomic at an address outside the launch memory
  (92_eei_decisions.md D12 "no memory at address"). Safe. -/
  | noMemoryAtAddress (addr : Word)
  /-- A store or atomic whose bytes overlap the program text (20_memory.md R100, D27). Safe. -/
  | storeToProgramText (addr : Word)
  /-- The PC is the launch contract's exit address, outside the program text: the program's normal
  end (70_reset_and_hazards.md R431, D20). Raised by the fetch. Safe. -/
  | programEnd (pc : Word)
  /-- The PC has left the program text at another address (D19, D20). Raised by the fetch. Safe. -/
  | fetchOutsideText (pc : Word)
  /-- "undefined: window register out of range": WRPR, SAVE, RESTORE, SAVED, RESTORED or a return
  from a trap would put a value above NWINDOWS-1 into a window register or take one below 0
  (10_state.md R45, 46_register_windows.md R318, D8). Safe. -/
  | windowRegisterOutOfRange
  deriving DecidableEq, Repr

/-- Why the machine declines an instruction. -/
inductive Refusal where
  /-- An instruction of the opcode table without a meaning; no arm answers it. Safe. -/
  | notModelled (mnemonic : String)
  /-- An instruction out of scope that the spec names (00_scope.md section 3, D1). Safe. -/
  | outOfScope (name : String)
  /-- An out-of-scope or reserved opcode, by its op and op3 fields (30_encoding.md R130, D1). Safe. -/
  | unlistedOpcode (op op3 : Nat)
  /-- A nonzero reserved bit in an instruction word (30_encoding.md R135, D28). Safe. -/
  | reservedInstructionBits
  /-- FMOVcc with opf_cc 101 or 111 (42_fp_move_and_fsr.md R201, D17). Safe. -/
  | reservedFmovSelector
  /-- FMOVr with rcond 000 or 100 (42_fp_move_and_fsr.md R202, D17). Safe. -/
  | reservedFmovCondition
  /-- A branch whose delay slot holds a branch (40_branches.md R162, D29). Safe. -/
  | branchInDelaySlot
  /-- LDQF with a little-endian ASI (43_loads.md R242). Safe. -/
  | littleEndianQuadLoad
  /-- WRPR, or a return from a trap, that would set PSTATE.MM = 3
  (45_state_register_access.md R297). Safe. -/
  | reservedMemoryModel
  /-- "reserved field written nonzero": LDFSR, LDXFSR or WRPR of TSTATE with a one for a reserved
  field of the register (00_scope.md R4, 92_eei_decisions.md D22, log 11). Safe. -/
  | reservedFieldWritten
  /-- WRPR of a value above MAXTL to TL (45_state_register_access.md R297, D16). Safe. -/
  | trapLevelAboveMax
  deriving DecidableEq, Repr

/-- The outcome of a step or of a meaning. -/
abbrev Res := Host.Outcome State Fault Refusal

/-- The trap stack after power-on reset: TT[MAXTL] = 0x001, the rest as log 2 names it (R58). -/
def resetTrapStack : Vector TrapRegs 8 :=
  (Vector.replicate 8 (TrapRegs.mk 0 0 0 0)).set 4 (TrapRegs.mk 0 0 0 1)

/-- The machine right after power-on reset (10_state.md R58, 70_reset_and_hazards.md R423). The spec
gives PC, nPC, TL, TT[MAXTL], TICK.NPT and PSTATE's MM RED PEF AM PRIV IE AG (the word 0x035); every
other value is a DESIGN CHOICE (log 1, log 2, log 3, log 6, log 7). -/
def State.reset : State where
  params := Params.initial
  launch := { extent := [⟨0, 2 ^ 64⟩], text := [], exit := none }
  pc := 0xFFFFFFFFF0000020
  npc := 0xFFFFFFFFF0000024
  globals := Vector.replicate 8 0
  altGlobals := Vector.replicate 8 0
  locals := Vector.replicate 32 (Vector.replicate 8 0)
  ins := Vector.replicate 32 (Vector.replicate 8 0)
  ccr := 0
  y := 0
  asi := 0
  tick := 0x8000000000000000
  fprs := 0
  f := Vector.replicate 64 0
  fsr := 0
  pstate := 0x035
  tl := 4
  trapStack := resetTrapStack
  tba := 0
  pil := 0
  cwp := 0
  cansave := 6
  canrestore := 0
  cleanwin := 7
  otherwin := 0
  wstate := 0
  sirEnable := false
  errorState := false
  draws := 0
  mem := []

end Sys2Proof.Machine
end

