-- ==== Sys2Proof/Syntax.lean ====
section
/-! DEFINITION. The abstract syntax: one constructor for each row of spec/opcode_table.json, its
operand fields as the encoding has them (spec/30_encoding.md R122 to R128, R134). -/

namespace Sys2Proof

/-- Integer conditions, in the order of their 4-bit encodings 0000 to 1111 (30_encoding.md R134). -/
inductive ICond where
  | n | e | le | l | leu | cs | neg | vs | a | ne | g | ge | gu | cc | pos | vc
  deriving DecidableEq, Repr

/-- Floating-point conditions, in the order of their 4-bit encodings 0000 to 1111
(30_encoding.md R134). -/
inductive FCond where
  | n | ne | lg | ul | l | ug | g | u | a | e | ue | ge | uge | le | ule | o
  deriving DecidableEq, Repr

/-- Register conditions: 001 Z, 010 LEZ, 011 LZ, 101 NZ, 110 GZ, 111 GEZ; 000 and 100 are reserved
and name none (30_encoding.md R134). -/
inductive RCond where
  | z | lez | lz | nz | gz | gez
  deriving DecidableEq, Repr

/-- The integer condition codes a BPcc or FMOVcc tests (30_encoding.md R134). -/
inductive CcSel where
  | icc | xcc
  deriving DecidableEq, Repr

/-- The floating-point condition code an FBPfcc or FMOVcc tests (30_encoding.md R134). -/
inductive FccSel where
  | fcc0 | fcc1 | fcc2 | fcc3
  deriving DecidableEq, Repr

/-- The size of a floating-point move (42_fp_move_and_fsr.md R201, R202). -/
inductive FpSize where
  | single | double | quad
  deriving DecidableEq, Repr

/-- The second operand of a format 3 (a)/(b) instruction (30_encoding.md R126). -/
inductive Operand2 where
  /-- i = 0: a register. -/
  | reg (rs2 : Reg)
  /-- i = 1: a signed 13-bit immediate. -/
  | imm (simm13 : BitVec 13)
  deriving DecidableEq, Repr

/-- The second operand and the ASI of an alternate-space load or store (30_encoding.md R128). -/
inductive AltOperand where
  /-- i = 0: imm_asi and a register offset. -/
  | immAsi (asi : BitVec 8) (rs2 : Reg)
  /-- i = 1: the ASI register and a signed 13-bit offset. -/
  | asiReg (simm13 : BitVec 13)
  deriving DecidableEq, Repr

/-- The ASI of CASA and CASXA: imm_asi (i = 0) or the ASI register (i = 1) (30_encoding.md R124
forms (c), (d)). -/
inductive CasAsi where
  | immAsi (asi : BitVec 8)
  | asiReg
  deriving DecidableEq, Repr

/-- The value a MOVr moves: a register (i = 0) or a signed 10-bit immediate (i = 1)
(44_movr_nop.md R260). -/
inductive MovrOperand where
  | reg (rs2 : Reg)
  | imm (simm10 : BitVec 10)
  deriving DecidableEq, Repr

/-- The instructions: one constructor per row of spec/opcode_table.json, in the table's order.
Field names are the encoding's: a the annul bit, p the prediction bit, d16 = d16hi :: d16lo. -/
inductive Instr where
  /-- BN (R163). -/
  | bn (a : Bool) (disp22 : BitVec 22)
  /-- BE (R163). -/
  | be (a : Bool) (disp22 : BitVec 22)
  /-- BLE (R163). -/
  | ble (a : Bool) (disp22 : BitVec 22)
  /-- BL (R163). -/
  | bl (a : Bool) (disp22 : BitVec 22)
  /-- BLEU (R163). -/
  | bleu (a : Bool) (disp22 : BitVec 22)
  /-- BCS (R163). -/
  | bcs (a : Bool) (disp22 : BitVec 22)
  /-- BNEG (R163). -/
  | bneg (a : Bool) (disp22 : BitVec 22)
  /-- BVS (R163). -/
  | bvs (a : Bool) (disp22 : BitVec 22)
  /-- BA (R163). -/
  | ba (a : Bool) (disp22 : BitVec 22)
  /-- BNE (R163). -/
  | bne (a : Bool) (disp22 : BitVec 22)
  /-- BG (R163). -/
  | bg (a : Bool) (disp22 : BitVec 22)
  /-- BGE (R163). -/
  | bge (a : Bool) (disp22 : BitVec 22)
  /-- BGU (R163). -/
  | bgu (a : Bool) (disp22 : BitVec 22)
  /-- BCC (R163). -/
  | bcc (a : Bool) (disp22 : BitVec 22)
  /-- BPOS (R163). -/
  | bpos (a : Bool) (disp22 : BitVec 22)
  /-- BVC (R163). -/
  | bvc (a : Bool) (disp22 : BitVec 22)
  /-- BPN (R164). -/
  | bpn (a : Bool) (cc : CcSel) (p : Bool) (disp19 : BitVec 19)
  /-- BPE (R164). -/
  | bpe (a : Bool) (cc : CcSel) (p : Bool) (disp19 : BitVec 19)
  /-- BPLE (R164). -/
  | bple (a : Bool) (cc : CcSel) (p : Bool) (disp19 : BitVec 19)
  /-- BPL (R164). -/
  | bpl (a : Bool) (cc : CcSel) (p : Bool) (disp19 : BitVec 19)
  /-- BPLEU (R164). -/
  | bpleu (a : Bool) (cc : CcSel) (p : Bool) (disp19 : BitVec 19)
  /-- BPCS (R164). -/
  | bpcs (a : Bool) (cc : CcSel) (p : Bool) (disp19 : BitVec 19)
  /-- BPNEG (R164). -/
  | bpneg (a : Bool) (cc : CcSel) (p : Bool) (disp19 : BitVec 19)
  /-- BPVS (R164). -/
  | bpvs (a : Bool) (cc : CcSel) (p : Bool) (disp19 : BitVec 19)
  /-- BPA (R164). -/
  | bpa (a : Bool) (cc : CcSel) (p : Bool) (disp19 : BitVec 19)
  /-- BPNE (R164). -/
  | bpne (a : Bool) (cc : CcSel) (p : Bool) (disp19 : BitVec 19)
  /-- BPG (R164). -/
  | bpg (a : Bool) (cc : CcSel) (p : Bool) (disp19 : BitVec 19)
  /-- BPGE (R164). -/
  | bpge (a : Bool) (cc : CcSel) (p : Bool) (disp19 : BitVec 19)
  /-- BPGU (R164). -/
  | bpgu (a : Bool) (cc : CcSel) (p : Bool) (disp19 : BitVec 19)
  /-- BPCC (R164). -/
  | bpcc (a : Bool) (cc : CcSel) (p : Bool) (disp19 : BitVec 19)
  /-- BPPOS (R164). -/
  | bppos (a : Bool) (cc : CcSel) (p : Bool) (disp19 : BitVec 19)
  /-- BPVC (R164). -/
  | bpvc (a : Bool) (cc : CcSel) (p : Bool) (disp19 : BitVec 19)
  /-- BRZ (R165). -/
  | brz (a : Bool) (p : Bool) (rs1 : Reg) (d16 : BitVec 16)
  /-- BRLEZ (R165). -/
  | brlez (a : Bool) (p : Bool) (rs1 : Reg) (d16 : BitVec 16)
  /-- BRLZ (R165). -/
  | brlz (a : Bool) (p : Bool) (rs1 : Reg) (d16 : BitVec 16)
  /-- BRNZ (R165). -/
  | brnz (a : Bool) (p : Bool) (rs1 : Reg) (d16 : BitVec 16)
  /-- BRGZ (R165). -/
  | brgz (a : Bool) (p : Bool) (rs1 : Reg) (d16 : BitVec 16)
  /-- BRGEZ (R165). -/
  | brgez (a : Bool) (p : Bool) (rs1 : Reg) (d16 : BitVec 16)
  /-- FBN (R166). -/
  | fbn (a : Bool) (disp22 : BitVec 22)
  /-- FBNE (R166). -/
  | fbne (a : Bool) (disp22 : BitVec 22)
  /-- FBLG (R166). -/
  | fblg (a : Bool) (disp22 : BitVec 22)
  /-- FBUL (R166). -/
  | fbul (a : Bool) (disp22 : BitVec 22)
  /-- FBL (R166). -/
  | fbl (a : Bool) (disp22 : BitVec 22)
  /-- FBUG (R166). -/
  | fbug (a : Bool) (disp22 : BitVec 22)
  /-- FBG (R166). -/
  | fbg (a : Bool) (disp22 : BitVec 22)
  /-- FBU (R166). -/
  | fbu (a : Bool) (disp22 : BitVec 22)
  /-- FBA (R166). -/
  | fba (a : Bool) (disp22 : BitVec 22)
  /-- FBE (R166). -/
  | fbe (a : Bool) (disp22 : BitVec 22)
  /-- FBUE (R166). -/
  | fbue (a : Bool) (disp22 : BitVec 22)
  /-- FBGE (R166). -/
  | fbge (a : Bool) (disp22 : BitVec 22)
  /-- FBUGE (R166). -/
  | fbuge (a : Bool) (disp22 : BitVec 22)
  /-- FBLE (R166). -/
  | fble (a : Bool) (disp22 : BitVec 22)
  /-- FBULE (R166). -/
  | fbule (a : Bool) (disp22 : BitVec 22)
  /-- FBO (R166). -/
  | fbo (a : Bool) (disp22 : BitVec 22)
  /-- FBPN (R167). -/
  | fbpn (a : Bool) (cc : FccSel) (p : Bool) (disp19 : BitVec 19)
  /-- FBPNE (R167). -/
  | fbpne (a : Bool) (cc : FccSel) (p : Bool) (disp19 : BitVec 19)
  /-- FBPLG (R167). -/
  | fbplg (a : Bool) (cc : FccSel) (p : Bool) (disp19 : BitVec 19)
  /-- FBPUL (R167). -/
  | fbpul (a : Bool) (cc : FccSel) (p : Bool) (disp19 : BitVec 19)
  /-- FBPL (R167). -/
  | fbpl (a : Bool) (cc : FccSel) (p : Bool) (disp19 : BitVec 19)
  /-- FBPUG (R167). -/
  | fbpug (a : Bool) (cc : FccSel) (p : Bool) (disp19 : BitVec 19)
  /-- FBPG (R167). -/
  | fbpg (a : Bool) (cc : FccSel) (p : Bool) (disp19 : BitVec 19)
  /-- FBPU (R167). -/
  | fbpu (a : Bool) (cc : FccSel) (p : Bool) (disp19 : BitVec 19)
  /-- FBPA (R167). -/
  | fbpa (a : Bool) (cc : FccSel) (p : Bool) (disp19 : BitVec 19)
  /-- FBPE (R167). -/
  | fbpe (a : Bool) (cc : FccSel) (p : Bool) (disp19 : BitVec 19)
  /-- FBPUE (R167). -/
  | fbpue (a : Bool) (cc : FccSel) (p : Bool) (disp19 : BitVec 19)
  /-- FBPGE (R167). -/
  | fbpge (a : Bool) (cc : FccSel) (p : Bool) (disp19 : BitVec 19)
  /-- FBPUGE (R167). -/
  | fbpuge (a : Bool) (cc : FccSel) (p : Bool) (disp19 : BitVec 19)
  /-- FBPLE (R167). -/
  | fbple (a : Bool) (cc : FccSel) (p : Bool) (disp19 : BitVec 19)
  /-- FBPULE (R167). -/
  | fbpule (a : Bool) (cc : FccSel) (p : Bool) (disp19 : BitVec 19)
  /-- FBPO (R167). -/
  | fbpo (a : Bool) (cc : FccSel) (p : Bool) (disp19 : BitVec 19)
  /-- NOP (R268). -/
  | nop
  /-- CASA (R181). -/
  | casa (rd : Reg) (rs1 : Reg) (asi : CasAsi) (rs2 : Reg)
  /-- CASXA (R182). -/
  | casxa (rd : Reg) (rs1 : Reg) (asi : CasAsi) (rs2 : Reg)
  /-- SWAP (R184). -/
  | swap (rd : Reg) (rs1 : Reg) (op2 : Operand2)
  /-- FMOVScc_fcc0 (R217). -/
  | fmovscc_fcc0 (cond : FCond) (rd : Reg) (rs2 : Reg)
  /-- FMOVScc_fcc1 (R217). -/
  | fmovscc_fcc1 (cond : FCond) (rd : Reg) (rs2 : Reg)
  /-- FMOVScc_fcc2 (R217). -/
  | fmovscc_fcc2 (cond : FCond) (rd : Reg) (rs2 : Reg)
  /-- FMOVScc_fcc3 (R217). -/
  | fmovscc_fcc3 (cond : FCond) (rd : Reg) (rs2 : Reg)
  /-- FMOVScc_icc (R217). -/
  | fmovscc_icc (cond : ICond) (rd : Reg) (rs2 : Reg)
  /-- FMOVScc_xcc (R217). -/
  | fmovscc_xcc (cond : ICond) (rd : Reg) (rs2 : Reg)
  /-- FMOVDcc_fcc0 (R218). -/
  | fmovdcc_fcc0 (cond : FCond) (rd : Reg) (rs2 : Reg)
  /-- FMOVDcc_fcc1 (R218). -/
  | fmovdcc_fcc1 (cond : FCond) (rd : Reg) (rs2 : Reg)
  /-- FMOVDcc_fcc2 (R218). -/
  | fmovdcc_fcc2 (cond : FCond) (rd : Reg) (rs2 : Reg)
  /-- FMOVDcc_fcc3 (R218). -/
  | fmovdcc_fcc3 (cond : FCond) (rd : Reg) (rs2 : Reg)
  /-- FMOVDcc_icc (R218). -/
  | fmovdcc_icc (cond : ICond) (rd : Reg) (rs2 : Reg)
  /-- FMOVDcc_xcc (R218). -/
  | fmovdcc_xcc (cond : ICond) (rd : Reg) (rs2 : Reg)
  /-- FMOVQcc_fcc0 (R219). -/
  | fmovqcc_fcc0 (cond : FCond) (rd : Reg) (rs2 : Reg)
  /-- FMOVQcc_fcc1 (R219). -/
  | fmovqcc_fcc1 (cond : FCond) (rd : Reg) (rs2 : Reg)
  /-- FMOVQcc_fcc2 (R219). -/
  | fmovqcc_fcc2 (cond : FCond) (rd : Reg) (rs2 : Reg)
  /-- FMOVQcc_fcc3 (R219). -/
  | fmovqcc_fcc3 (cond : FCond) (rd : Reg) (rs2 : Reg)
  /-- FMOVQcc_icc (R219). -/
  | fmovqcc_icc (cond : ICond) (rd : Reg) (rs2 : Reg)
  /-- FMOVQcc_xcc (R219). -/
  | fmovqcc_xcc (cond : ICond) (rd : Reg) (rs2 : Reg)
  /-- FMOVRSZ (R220). -/
  | fmovrsz (rd : Reg) (rs1 : Reg) (rs2 : Reg)
  /-- FMOVRSLEZ (R220). -/
  | fmovrslez (rd : Reg) (rs1 : Reg) (rs2 : Reg)
  /-- FMOVRSLZ (R220). -/
  | fmovrslz (rd : Reg) (rs1 : Reg) (rs2 : Reg)
  /-- FMOVRSNZ (R220). -/
  | fmovrsnz (rd : Reg) (rs1 : Reg) (rs2 : Reg)
  /-- FMOVRSGZ (R220). -/
  | fmovrsgz (rd : Reg) (rs1 : Reg) (rs2 : Reg)
  /-- FMOVRSGEZ (R220). -/
  | fmovrsgez (rd : Reg) (rs1 : Reg) (rs2 : Reg)
  /-- FMOVRDZ (R221). -/
  | fmovrdz (rd : Reg) (rs1 : Reg) (rs2 : Reg)
  /-- FMOVRDLEZ (R221). -/
  | fmovrdlez (rd : Reg) (rs1 : Reg) (rs2 : Reg)
  /-- FMOVRDLZ (R221). -/
  | fmovrdlz (rd : Reg) (rs1 : Reg) (rs2 : Reg)
  /-- FMOVRDNZ (R221). -/
  | fmovrdnz (rd : Reg) (rs1 : Reg) (rs2 : Reg)
  /-- FMOVRDGZ (R221). -/
  | fmovrdgz (rd : Reg) (rs1 : Reg) (rs2 : Reg)
  /-- FMOVRDGEZ (R221). -/
  | fmovrdgez (rd : Reg) (rs1 : Reg) (rs2 : Reg)
  /-- FMOVRQZ (R222). -/
  | fmovrqz (rd : Reg) (rs1 : Reg) (rs2 : Reg)
  /-- FMOVRQLEZ (R222). -/
  | fmovrqlez (rd : Reg) (rs1 : Reg) (rs2 : Reg)
  /-- FMOVRQLZ (R222). -/
  | fmovrqlz (rd : Reg) (rs1 : Reg) (rs2 : Reg)
  /-- FMOVRQNZ (R222). -/
  | fmovrqnz (rd : Reg) (rs1 : Reg) (rs2 : Reg)
  /-- FMOVRQGZ (R222). -/
  | fmovrqgz (rd : Reg) (rs1 : Reg) (rs2 : Reg)
  /-- FMOVRQGEZ (R222). -/
  | fmovrqgez (rd : Reg) (rs1 : Reg) (rs2 : Reg)
  /-- MOVRZ (R261). -/
  | movrz (rd : Reg) (rs1 : Reg) (v : MovrOperand)
  /-- MOVRLEZ (R262). -/
  | movrlez (rd : Reg) (rs1 : Reg) (v : MovrOperand)
  /-- MOVRLZ (R263). -/
  | movrlz (rd : Reg) (rs1 : Reg) (v : MovrOperand)
  /-- MOVRNZ (R264). -/
  | movrnz (rd : Reg) (rs1 : Reg) (v : MovrOperand)
  /-- MOVRGZ (R265). -/
  | movrgz (rd : Reg) (rs1 : Reg) (v : MovrOperand)
  /-- MOVRGEZ (R266). -/
  | movrgez (rd : Reg) (rs1 : Reg) (v : MovrOperand)
  /-- LDF (R241). -/
  | ldf (rd : Reg) (rs1 : Reg) (op2 : Operand2)
  /-- LDDF (R245). -/
  | lddf (rd : Reg) (rs1 : Reg) (op2 : Operand2)
  /-- LDQF (R242). -/
  | ldqf (rd : Reg) (rs1 : Reg) (op2 : Operand2)
  /-- LDFSR (R243). -/
  | ldfsr (rs1 : Reg) (op2 : Operand2)
  /-- LDXFSR (R244). -/
  | ldxfsr (rs1 : Reg) (op2 : Operand2)
  /-- LDD (R246). -/
  | ldd (rd : Reg) (rs1 : Reg) (op2 : Operand2)
  /-- LDDA (R247). -/
  | ldda (rd : Reg) (rs1 : Reg) (alt : AltOperand)
  /-- STB (R333). -/
  | stb (rd : Reg) (rs1 : Reg) (op2 : Operand2)
  /-- STH (R334). -/
  | sth (rd : Reg) (rs1 : Reg) (op2 : Operand2)
  /-- STW (R335). -/
  | stw (rd : Reg) (rs1 : Reg) (op2 : Operand2)
  /-- STX (R336). -/
  | stx (rd : Reg) (rs1 : Reg) (op2 : Operand2)
  /-- STD (R337). -/
  | std (rd : Reg) (rs1 : Reg) (op2 : Operand2)
  /-- STBA (R338). -/
  | stba (rd : Reg) (rs1 : Reg) (alt : AltOperand)
  /-- STHA (R341). -/
  | stha (rd : Reg) (rs1 : Reg) (alt : AltOperand)
  /-- STWA (R342). -/
  | stwa (rd : Reg) (rs1 : Reg) (alt : AltOperand)
  /-- STXA (R343). -/
  | stxa (rd : Reg) (rs1 : Reg) (alt : AltOperand)
  /-- STDA (R339). -/
  | stda (rd : Reg) (rs1 : Reg) (alt : AltOperand)
  /-- RDY (R282). -/
  | rdy (rd : Reg)
  /-- RDCCR (R283). -/
  | rdccr (rd : Reg)
  /-- RDASI (R284). -/
  | rdasi (rd : Reg)
  /-- RDTICK (R285). -/
  | rdtick (rd : Reg)
  /-- RDPC (R286). -/
  | rdpc (rd : Reg)
  /-- RDFPRS (R281). -/
  | rdfprs (rd : Reg)
  /-- RDASR16_31 (R288). -/
  | rdasr16_31 (rd : Reg) (rs1 : Reg)
  /-- WRY (R290). -/
  | wry (rs1 : Reg) (op2 : Operand2)
  /-- WRCCR (R291). -/
  | wrccr (rs1 : Reg) (op2 : Operand2)
  /-- WRASI (R292). -/
  | wrasi (rs1 : Reg) (op2 : Operand2)
  /-- WRFPRS (R293). -/
  | wrfprs (rs1 : Reg) (op2 : Operand2)
  /-- WRASR16_31 (R294). -/
  | wrasr16_31 (rd : Reg) (rs1 : Reg) (op2 : Operand2)
  /-- SIR (R295). -/
  | sir (simm13 : BitVec 13)
  /-- RDPR (R296). -/
  | rdpr (rd : Reg) (rs1 : Reg)
  /-- WRPR (R297). -/
  | wrpr (rd : Reg) (rs1 : Reg) (op2 : Operand2)
  /-- SAVE (R311). -/
  | save (rd : Reg) (rs1 : Reg) (op2 : Operand2)
  /-- RESTORE (R312). -/
  | restore (rd : Reg) (rs1 : Reg) (op2 : Operand2)
  /-- SAVED (R314). -/
  | saved
  /-- RESTORED (R316). -/
  | restored
  /-- TADDcc (R352). -/
  | taddcc (rd : Reg) (rs1 : Reg) (op2 : Operand2)
  /-- TADDccTV (R353). -/
  | taddcctv (rd : Reg) (rs1 : Reg) (op2 : Operand2)
  deriving DecidableEq, Repr

end Sys2Proof
end

