-- ==== Sys2Proof/Machine/Fields.lean ====
section
/-! DEFINITION. Bit fields of the control registers: CCR, FPRS, FSR, PSTATE, TSTATE, TICK, WSTATE
(spec/10_state.md R27, R30, R31, R35, R37, R40, R43). -/

namespace Sys2Proof.Machine

/-- A bit vector with the bits lo, lo+1, ... replaced by a field's. -/
def putField {n w : Nat} (v : BitVec n) (lo : Nat) (x : BitVec w) : BitVec n :=
  (v &&& ~~~((BitVec.allOnes w).setWidth n <<< lo)) ||| (x.setWidth n <<< lo)

/-- The bits of a vector that a mask names come from a new value, the others stay. -/
def mergeBits {n : Nat} (mask new old : BitVec n) : BitVec n :=
  (new &&& mask) ||| (old &&& ~~~mask)

/-! ### PSTATE (R37) -/

/-- PSTATE.AG, bit 0. -/
def State.ag (s : State) : Bool := s.pstate.getLsbD 0

/-- PSTATE.IE, bit 1. -/
def State.ie (s : State) : Bool := s.pstate.getLsbD 1

/-- PSTATE.PRIV, bit 2. -/
def State.priv (s : State) : Bool := s.pstate.getLsbD 2

/-- PSTATE.AM, bit 3. -/
def State.am (s : State) : Bool := s.pstate.getLsbD 3

/-- PSTATE.PEF, bit 4. -/
def State.pef (s : State) : Bool := s.pstate.getLsbD 4

/-- PSTATE.RED, bit 5. -/
def State.red (s : State) : Bool := s.pstate.getLsbD 5

/-- PSTATE.MM, bits 7:6. -/
def State.mm (s : State) : BitVec 2 := s.pstate.extractLsb' 6 2

/-- PSTATE.TLE, bit 8. -/
def State.tle (s : State) : Bool := s.pstate.getLsbD 8

/-- PSTATE.CLE, bit 9. -/
def State.cle (s : State) : Bool := s.pstate.getLsbD 9

/-- The bits of PSTATE that are implemented: PID1 (bit 11) and PID0 (bit 10) only where the
implementation has them; an unimplemented bit reads as zero and ignores writes (R38, D4). -/
def pstateMask (p : Config.Params) : BitVec 12 :=
  (BitVec.ofBool p.pid1 ++ BitVec.ofBool p.pid0 ++ 0x3FF#10 : BitVec 12)

/-- PSTATE after a normal trap: PID1, PID0, TLE and MM unchanged, CLE <- TLE, and RED 0, PEF 1, AM 0,
PRIV 1, IE 0, AG 1 (60_exceptions.md R372). -/
def trapPstate (v : BitVec 12) : BitVec 12 :=
  (v.extractLsb' 10 2 ++ v.extractLsb' 8 1 ++ v.extractLsb' 8 1 ++ v.extractLsb' 6 2 ++ 0b010101#6
    : BitVec 12)

/-- PSTATE after a RED_state entry or a reset: CLE <- TLE, then TLE takes the drawn value; MM 0, RED
1, PEF 1, AM 0, PRIV 1, IE 0, AG 1 (60_exceptions.md R374, 70_reset_and_hazards.md R422); PID1 and
PID0 take the given value (10_state.md R58 "unspecified"). -/
def redPstate (v : BitVec 12) (tle : Bool) (pid : BitVec 2) : BitVec 12 :=
  (pid ++ v.extractLsb' 8 1 ++ BitVec.ofBool tle ++ 0#2 ++ 0b110101#6 : BitVec 12)

/-! ### TSTATE (R40, R41) -/

/-- TSTATE of the interrupted state: CCR 39:32, ASI 31:24, PSTATE 19:8 (bits 19 and 18 only where
PID1, PID0 are implemented), CWP 4:0. -/
def packTstate (p : Config.Params) (ccr asi : BitVec 8) (pstate : BitVec 12) (cwp : BitVec 5) : Word :=
  (0#24 ++ ccr ++ asi ++ 0#4 ++ (pstate &&& pstateMask p) ++ 0#3 ++ cwp : BitVec 64)

/-- TSTATE.CCR, bits 39:32. -/
def tstateCcr (t : Word) : BitVec 8 := t.extractLsb' 32 8

/-- TSTATE.ASI, bits 31:24. -/
def tstateAsi (t : Word) : BitVec 8 := t.extractLsb' 24 8

/-- TSTATE.PSTATE, bits 19:8. -/
def tstatePstate (t : Word) : BitVec 12 := t.extractLsb' 8 12

/-- TSTATE.CWP, bits 4:0. -/
def tstateCwp (t : Word) : BitVec 5 := t.extractLsb' 0 5

/-- A 64-bit value restricted to the fields of TSTATE (45_state_register_access.md R297). -/
def tstateFields (p : Config.Params) (v : Word) : Word :=
  packTstate p (tstateCcr v) (tstateAsi v) (tstatePstate v) (tstateCwp v)

/-- The reserved fields of TSTATE: bits 63:40, 23:20 and 7:5 (R40). -/
def tstateReserved : Word := 0xFFFFFF0000F000E0

/-! ### CCR (R27) -/

/-- The four condition codes of one width. -/
structure Nzvc where
  n : Bool
  z : Bool
  v : Bool
  c : Bool
  deriving DecidableEq, Repr

/-- icc: CCR bits 3, 2, 1, 0. -/
def ccrIcc (ccr : BitVec 8) : Nzvc :=
  ⟨ccr.getLsbD 3, ccr.getLsbD 2, ccr.getLsbD 1, ccr.getLsbD 0⟩

/-- xcc: CCR bits 7, 6, 5, 4. -/
def ccrXcc (ccr : BitVec 8) : Nzvc :=
  ⟨ccr.getLsbD 7, ccr.getLsbD 6, ccr.getLsbD 5, ccr.getLsbD 4⟩

/-- Four condition codes as four bits n z v c. -/
def Nzvc.bits (x : Nzvc) : BitVec 4 :=
  (BitVec.ofBool x.n ++ BitVec.ofBool x.z ++ BitVec.ofBool x.v ++ BitVec.ofBool x.c : BitVec 4)

/-- CCR from xcc and icc. -/
def packCcr (xcc icc : Nzvc) : BitVec 8 := (xcc.bits ++ icc.bits : BitVec 8)

/-! ### FPRS and FSR (R30, R35) -/

/-- FPRS.FEF, bit 2. -/
def State.fef (s : State) : Bool := s.fprs.getLsbD 2

/-- FSR.cexc, bits 4:0. -/
def fsrCexc (v : Word) : BitVec 5 := v.extractLsb' 0 5

/-- FSR.aexc, bits 9:5. -/
def fsrAexc (v : Word) : BitVec 5 := v.extractLsb' 5 5

/-- FSR.ftt, bits 16:14. -/
def fsrFtt (v : Word) : BitVec 3 := v.extractLsb' 14 3

/-- FSR.TEM, bits 27:23: NVM OFM UFM DZM NXM. -/
def fsrTem (v : Word) : BitVec 5 := v.extractLsb' 23 5

/-- FSR.RD, bits 31:30. -/
def fsrRd (v : Word) : BitVec 2 := v.extractLsb' 30 2

/-- FSR.fcc0 (bits 11:10), fcc1 (33:32), fcc2 (35:34), fcc3 (37:36). -/
def fsrFcc (v : Word) : FccSel → BitVec 2
  | .fcc0 => v.extractLsb' 10 2
  | .fcc1 => v.extractLsb' 32 2
  | .fcc2 => v.extractLsb' 34 2
  | .fcc3 => v.extractLsb' 36 2

/-- FSR with cexc replaced. -/
def fsrPutCexc (v : Word) (x : BitVec 5) : Word := putField v 0 x

/-- FSR with aexc replaced. -/
def fsrPutAexc (v : Word) (x : BitVec 5) : Word := putField v 5 x

/-- FSR with ftt replaced. -/
def fsrPutFtt (v : Word) (x : BitVec 3) : Word := putField v 14 x

/-- The reserved fields of FSR: bits 63:38, 29:28, 21:20 and 12 (R35). -/
def fsrReserved : Word := 0xFFFFFFC030301000

/-- The bits of FSR[31:0] that a load writes: RD 31:30, TEM 27:23, NS 22, fcc0 11:10, aexc 9:5, cexc
4:0 (43_loads.md R243). -/
def fsrLoadMaskLow : BitVec 32 := 0xCFC00FFF

/-- The bits of FSR[31:0] that a load leaves alone: ver 19:17, ftt 16:14 (R243, R244), and qne 13,
which is 0 in a machine without an FQ (D17, log 12). The other bits are reserved and read as 0. -/
def fsrKeepMaskLow : BitVec 32 := 0x000FE000

/-- FSR after LDFSR of a word: bits 63:32 unaffected (R243). -/
def fsrAfterLoadWord (fsr : Word) (w : BitVec 32) : Word :=
  (fsr.extractLsb' 32 32 ++
    ((w &&& fsrLoadMaskLow) ||| (fsr.extractLsb' 0 32 &&& fsrKeepMaskLow)) : BitVec 64)

/-- FSR after LDXFSR of a doubleword: as LDFSR below, and fcc3, fcc2, fcc1 (37:32) above; bits 63:38
are reserved and read as 0 (R244, R4). -/
def fsrAfterLoadExtended (fsr d : Word) : Word :=
  (0#26 ++ d.extractLsb' 32 6 ++
    ((d.extractLsb' 0 32 &&& fsrLoadMaskLow) ||| (fsr.extractLsb' 0 32 &&& fsrKeepMaskLow))
    : BitVec 64)

/-! ### TICK, WSTATE, VER (R31, R43) -/

/-- TICK.NPT, bit 63. -/
def State.npt (s : State) : Bool := s.tick.getLsbD 63

/-- TICK.counter, bits 62:0. -/
def State.tickCounter (s : State) : BitVec 63 := s.tick.extractLsb' 0 63

/-- WSTATE.NORMAL, bits 2:0. -/
def State.wstateNormal (s : State) : BitVec 3 := s.wstate.extractLsb' 0 3

/-- WSTATE.OTHER, bits 5:3. -/
def State.wstateOther (s : State) : BitVec 3 := s.wstate.extractLsb' 3 3

/-- VER: manuf 63:48, impl 47:32, mask 31:24, maxtl 15:8, maxwin 4:0 (R43); maxtl = MAXTL and maxwin
= NWINDOWS - 1 (00_scope.md section 4). -/
def verValue (p : Config.Params) : Word :=
  (p.verManuf ++ p.verImpl ++ p.verMask ++ 0#8 ++ BitVec.ofNat 8 p.maxtl ++ 0#3
    ++ BitVec.ofNat 5 (p.nwindows - 1) : BitVec 64)

end Sys2Proof.Machine
end

