-- ==== Sys2Proof/Machine/Traps.lean ====
section
/-! DEFINITION. The exceptions: their trap types, classes and priorities (spec/60_exceptions.md R363,
R364, R366, R367; 46_register_windows.md R313). -/

namespace Sys2Proof.Machine

/-- The exceptions of 60_exceptions.md R364. The floating-point exceptions carry what they record in
FSR: the cexc bits (R382), or ftt (10_state.md R35). -/
inductive Exc where
  | powerOnReset
  | watchdogReset
  | externallyInitiatedReset
  | softwareInitiatedReset
  | redStateException
  | instructionAccessException
  | instructionAccessMmuMiss
  | instructionAccessError
  | illegalInstruction
  | privilegedOpcode
  | unimplementedLdd
  | unimplementedStd
  | fpDisabled
  | fpExceptionIeee754 (cexc : BitVec 5)
  | fpExceptionOther (ftt : BitVec 3)
  | tagOverflow
  | cleanWindow
  | divisionByZero
  | internalProcessorError
  | dataAccessException
  | dataAccessMmuMiss
  | dataAccessError
  | dataAccessProtection
  | memAddressNotAligned
  | lddfMemAddressNotAligned
  | stdfMemAddressNotAligned
  | privilegedAction
  | ldqfMemAddressNotAligned
  | stqfMemAddressNotAligned
  | asyncDataError
  | interruptLevel (n : BitVec 4)
  | implementationDependent (n : BitVec 5)
  | spillNormal (n : BitVec 3)
  | spillOther (n : BitVec 3)
  | fillNormal (n : BitVec 3)
  | fillOther (n : BitVec 3)
  | trapInstruction (n : BitVec 7)
  deriving DecidableEq, Repr

/-- The trap type tt, 9 bits (R364). Window traps step by 4 (R313). -/
def Exc.tt : Exc → BitVec 9
  | .powerOnReset => 0x001
  | .watchdogReset => 0x002
  | .externallyInitiatedReset => 0x003
  | .softwareInitiatedReset => 0x004
  | .redStateException => 0x005
  | .instructionAccessException => 0x008
  | .instructionAccessMmuMiss => 0x009
  | .instructionAccessError => 0x00A
  | .illegalInstruction => 0x010
  | .privilegedOpcode => 0x011
  | .unimplementedLdd => 0x012
  | .unimplementedStd => 0x013
  | .fpDisabled => 0x020
  | .fpExceptionIeee754 _ => 0x021
  | .fpExceptionOther _ => 0x022
  | .tagOverflow => 0x023
  | .cleanWindow => 0x024
  | .divisionByZero => 0x028
  | .internalProcessorError => 0x029
  | .dataAccessException => 0x030
  | .dataAccessMmuMiss => 0x031
  | .dataAccessError => 0x032
  | .dataAccessProtection => 0x033
  | .memAddressNotAligned => 0x034
  | .lddfMemAddressNotAligned => 0x035
  | .stdfMemAddressNotAligned => 0x036
  | .privilegedAction => 0x037
  | .ldqfMemAddressNotAligned => 0x038
  | .stqfMemAddressNotAligned => 0x039
  | .asyncDataError => 0x040
  | .interruptLevel n => 0x040 + n.setWidth 9
  | .implementationDependent n => 0x060 + n.setWidth 9
  | .spillNormal n => 0x080 + 4 * n.setWidth 9
  | .spillOther n => 0x0A0 + 4 * n.setWidth 9
  | .fillNormal n => 0x0C0 + 4 * n.setWidth 9
  | .fillOther n => 0x0E0 + 4 * n.setWidth 9
  | .trapInstruction n => 0x100 + n.setWidth 9

/-- The four classes of trap (R363). -/
inductive TrapClass where
  | precise | deferred | disrupting | reset
  deriving DecidableEq, Repr

/-- The classes an exception's trap may have (R364's class column, R365 for async_data_error); empty
where the table leaves the cell empty. -/
def Exc.classes : Exc → List TrapClass
  | .powerOnReset | .watchdogReset | .externallyInitiatedReset | .softwareInitiatedReset => [.reset]
  | .redStateException | .internalProcessorError | .implementationDependent _ => []
  | .fpExceptionIeee754 _ | .fpExceptionOther _ => [.precise, .deferred]
  | .asyncDataError => [.precise, .deferred, .disrupting]
  | .interruptLevel _ => [.disrupting]
  | .instructionAccessException | .instructionAccessMmuMiss | .instructionAccessError
  | .illegalInstruction | .privilegedOpcode | .unimplementedLdd | .unimplementedStd | .fpDisabled
  | .tagOverflow | .cleanWindow | .divisionByZero | .dataAccessException | .dataAccessMmuMiss
  | .dataAccessError | .dataAccessProtection | .memAddressNotAligned | .lddfMemAddressNotAligned
  | .stdfMemAddressNotAligned | .privilegedAction | .ldqfMemAddressNotAligned
  | .stqfMemAddressNotAligned | .spillNormal _ | .spillOther _ | .fillNormal _ | .fillOther _
  | .trapInstruction _ => [.precise]

/-- The priority number, 0 the highest (R366, R367). An implementation-dependent exception has the
number its implementation gives (log 37). -/
def Exc.priority : Exc → Nat
  | .powerOnReset => 0
  | .watchdogReset | .externallyInitiatedReset | .softwareInitiatedReset | .redStateException => 1
  | .instructionAccessMmuMiss | .asyncDataError => 2
  | .instructionAccessError => 3
  | .internalProcessorError => 4
  | .instructionAccessException => 5
  | .privilegedOpcode | .unimplementedLdd | .unimplementedStd => 6
  | .illegalInstruction => 7
  | .fpDisabled => 8
  | .spillNormal _ | .spillOther _ | .fillNormal _ | .fillOther _ => 9
  | .cleanWindow | .memAddressNotAligned | .lddfMemAddressNotAligned | .stdfMemAddressNotAligned
  | .ldqfMemAddressNotAligned | .stqfMemAddressNotAligned => 10
  | .fpExceptionIeee754 _ | .fpExceptionOther _ | .privilegedAction => 11
  | .dataAccessException | .dataAccessMmuMiss | .dataAccessError | .dataAccessProtection => 12
  | .tagOverflow => 14
  | .divisionByZero => 15
  | .trapInstruction _ => 16
  | .interruptLevel n => 32 - n.toNat
  | .implementationDependent n => Config.implPriority n

/-- One exception goes before another when its priority number is smaller (R367). -/
def Exc.before (e e' : Exc) : Bool := decide (e.priority < e'.priority)

/-- Of the exceptions pending at one time, the one with the smallest priority number (R367); of equal
numbers the first listed, where the spec gives no order (log 37). -/
def highestPriority : List Exc → Option Exc
  | [] => none
  | e :: es =>
    match highestPriority es with
    | none => some e
    | some e' => if e'.before e then some e' else some e

/-- The exceptions that are resets and use a RED_state vector of their own (R360, 70_reset_and_hazards.md
R420). -/
def Exc.isReset : Exc → Bool
  | .powerOnReset | .watchdogReset | .externallyInitiatedReset | .softwareInitiatedReset => true
  | _ => false

/-- The offset from RSTVaddr of the RED_state vector (70_reset_and_hazards.md R420). -/
def Exc.redVector : Exc → BitVec 8
  | .powerOnReset => 0x20
  | .watchdogReset => 0x40
  | .externallyInitiatedReset => 0x60
  | .softwareInitiatedReset => 0x80
  | _ => 0xA0

end Sys2Proof.Machine
end

