-- ==== Sys2Proof/Machine/Ops.lean ====
section
/-! DEFINITION. The named operations over memory and registers, taking an exception and returning from
one (spec/10_state.md, 20_memory.md, 60_exceptions.md, 70_reset_and_hazards.md). -/

namespace Sys2Proof.Machine

open Sys2Proof.Config

/-! ### Memory (20_memory.md R84 to R88) -/

/-- The byte at an address. -/
def readByte : Memory → Nat → Byte
  | [], _ => initialByte
  | (k, b) :: m, a => if a = k then b else readByte m a

/-- Memory with no entry for an address. -/
def eraseByte : Memory → Nat → Memory
  | [], _ => []
  | (k, v) :: m, a => if k = a then eraseByte m a else (k, v) :: eraseByte m a

/-- Memory with an entry put before the first higher address. -/
def insertByte : Memory → Nat → Byte → Memory
  | [], a, b => [(a, b)]
  | (k, v) :: m, a, b => if a < k then (a, b) :: (k, v) :: m else (k, v) :: insertByte m a b

/-- Memory with the byte at an address replaced; the canonical form is kept. -/
def writeByte (m : Memory) (a : Nat) (b : Byte) : Memory :=
  if b = initialByte then eraseByte m a else insertByte (eraseByte m a) a b

/-- MemRead: the bytes at a, a+1, ..., a+n-1, the byte at a first (00_scope.md section 5). -/
def readBytes (m : Memory) (a : Nat) : Nat → List Byte
  | 0 => []
  | n + 1 => readByte m a :: readBytes m (a + 1) n

/-- MemWrite: the bytes stored at a, a+1, ... (00_scope.md section 5). -/
def writeBytes (m : Memory) (a : Nat) : List Byte → Memory
  | [] => m
  | b :: bs => writeBytes (writeByte m a b) (a + 1) bs

/-- le(list): b0 least significant (00_scope.md section 5). -/
def leValue : List Byte → Nat
  | [] => 0
  | b :: bs => b.toNat + 256 * leValue bs

/-- be(list): b0 most significant (00_scope.md section 5). -/
def beValue (bs : List Byte) : Nat := leValue bs.reverse

/-- le_bytes_n(v): the n low bytes of v, least significant first. -/
def leBytes : Nat → Nat → List Byte
  | 0, _ => []
  | n + 1, v => BitVec.ofNat 8 v :: leBytes n (v / 256)

/-- be_bytes_n(v): the n low bytes of v, most significant first. -/
def beBytes (n v : Nat) : List Byte := (leBytes n v).reverse

/-- The value of a byte list in a byte order (20_memory.md R85). -/
def bytesValue (little : Bool) (bs : List Byte) : Nat := if little then leValue bs else beValue bs

/-- The bytes of a value in a byte order (20_memory.md R85). -/
def valueBytes (little : Bool) (n v : Nat) : List Byte := if little then leBytes n v else beBytes n v

/-- The address lies in one of the ranges. -/
def inRanges (rs : List Range) (a : Nat) : Bool :=
  rs.any fun r => decide (r.base ≤ a) && decide (a < r.base + r.size)

/-- Every one of the n bytes at a lies in the ranges. -/
def allInRanges (rs : List Range) (a : Nat) : Nat → Bool
  | 0 => true
  | n + 1 => inRanges rs a && allInRanges rs (a + 1) n

/-- One of the n bytes at a lies in the ranges. -/
def anyInRanges (rs : List Range) (a : Nat) : Nat → Bool
  | 0 => false
  | n + 1 => inRanges rs a || anyInRanges rs (a + 1) n

/-! ### Addresses and program counters (10_state.md R24 to R26) -/

/-- An address as the machine uses it: with PSTATE.AM = 1 its upper 32 bits are zero (R26). -/
def State.maskAddr (s : State) (a : Word) : Word := if s.am then a &&& 0xFFFFFFFF#64 else a

/-- The end of an instruction that is no control transfer and does not trap:
(pc, npc) <- (npc, npc + 4) (R25). -/
def State.advance (s : State) : State := { s with pc := s.npc, npc := s.npc + 4 }

/-- Both program counters set by a control transfer (R25). -/
def State.setPcs (s : State) (pc npc : Word) : State := { s with pc := pc, npc := npc }

/-! ### Integer registers (10_state.md R20 to R23) -/

/-- A 5-bit window number as an index of the window arrays. -/
def winIndex (w : BitVec 5) : Fin 32 := ⟨w.toNat, w.isLt⟩

/-- A 3-bit register number within its group of eight. -/
def groupIndex (r : Reg) : Fin 8 := ⟨(r.extractLsb' 0 3).toNat, (r.extractLsb' 0 3).isLt⟩

/-- Window w + n of NWINDOWS, modulo NWINDOWS (R23). -/
def windowPlus (p : Params) (w : BitVec 5) (n : Nat) : BitVec 5 :=
  BitVec.ofNat 5 ((w.toNat + n) % p.nwindows)

/-- Window w - 1, modulo NWINDOWS (46_register_windows.md R312). -/
def windowMinusOne (p : Params) (w : BitVec 5) : BitVec 5 := windowPlus p w (p.nwindows - 1)

/-- The four groups of r registers (R20). -/
inductive RegGroup where
  | globals | outs | locals | ins
  deriving DecidableEq, Repr

/-- The group of a register number: r[0..7], r[8..15], r[16..23], r[24..31] (R20). -/
def regGroup (r : Reg) : RegGroup :=
  match (r.extractLsb' 3 2).toNat with
  | 0 => .globals
  | 1 => .outs
  | 2 => .locals
  | _ => .ins

/-- x[r]: a register of the current window; r[0] is zero (R21 to R23). -/
def State.readReg (s : State) (r : Reg) : Word :=
  if r = 0 then 0
  else
    match regGroup r with
    | .globals => if s.ag then s.altGlobals.get (groupIndex r) else s.globals.get (groupIndex r)
    | .outs => (s.ins.get (winIndex (windowPlus s.params s.cwp 1))).get (groupIndex r)
    | .locals => (s.locals.get (winIndex s.cwp)).get (groupIndex r)
    | .ins => (s.ins.get (winIndex s.cwp)).get (groupIndex r)

/-- A register file of windows with one register of one window replaced. -/
def setWindowReg (ws : Vector (Vector Word 8) 32) (w : Fin 32) (i : Fin 8) (v : Word) :
    Vector (Vector Word 8) 32 :=
  ws.set w ((ws.get w).set i v)

/-- x[r] <- v: a write to r[0] is discarded (R21 to R23). -/
def State.writeReg (s : State) (r : Reg) (v : Word) : State :=
  if r = 0 then s
  else
    match regGroup r with
    | .globals =>
      if s.ag then { s with altGlobals := s.altGlobals.set (groupIndex r) v }
      else { s with globals := s.globals.set (groupIndex r) v }
    | .outs =>
      { s with ins := setWindowReg s.ins (winIndex (windowPlus s.params s.cwp 1)) (groupIndex r) v }
    | .locals => { s with locals := setWindowReg s.locals (winIndex s.cwp) (groupIndex r) v }
    | .ins => { s with ins := setWindowReg s.ins (winIndex s.cwp) (groupIndex r) v }

/-! ### Floating-point registers (10_state.md R30, R33, R34) -/

/-- A 6-bit register number as an index of F. -/
def fIndex (n : BitVec 6) : Fin 64 := ⟨n.toNat, n.isLt⟩

/-- F[n]. -/
def State.fWord (s : State) (n : BitVec 6) : BitVec 32 := s.f.get (fIndex n)

/-- F[n] <- v. -/
def State.setFWord (s : State) (n : BitVec 6) (v : BitVec 32) : State :=
  { s with f := s.f.set (fIndex n) v }

/-- f32[n] (R33). -/
def State.f32 (s : State) (n : BitVec 6) : BitVec 32 := s.fWord n

/-- f64[n] = F[n] :: F[n+1] (R33). -/
def State.f64 (s : State) (n : BitVec 6) : BitVec 64 := (s.fWord n ++ s.fWord (n + 1) : BitVec 64)

/-- f128[n] = F[n] :: F[n+1] :: F[n+2] :: F[n+3] (R33). -/
def State.f128 (s : State) (n : BitVec 6) : BitVec 128 :=
  (s.fWord n ++ s.fWord (n + 1) ++ s.fWord (n + 2) ++ s.fWord (n + 3) : BitVec 128)

/-- f32[n] <- v (R33). -/
def State.setF32 (s : State) (n : BitVec 6) (v : BitVec 32) : State := s.setFWord n v

/-- f64[n] <- v (R33). -/
def State.setF64 (s : State) (n : BitVec 6) (v : BitVec 64) : State :=
  (s.setFWord n (v.extractLsb' 32 32)).setFWord (n + 1) (v.extractLsb' 0 32)

/-- f128[n] <- v (R33). -/
def State.setF128 (s : State) (n : BitVec 6) (v : BitVec 128) : State :=
  (((s.setFWord n (v.extractLsb' 96 32)).setFWord (n + 1) (v.extractLsb' 64 32)).setFWord
    (n + 2) (v.extractLsb' 32 32)).setFWord (n + 3) (v.extractLsb' 0 32)

/-- The single register a 5-bit field names (R34). -/
def singleReg (field : Reg) : BitVec 6 := (0#1 ++ field : BitVec 6)

/-- The double or quad register a 5-bit field names: field bit 0 carries bit 5 of the number (R34). -/
def doubleReg (field : Reg) : BitVec 6 :=
  (field.extractLsb' 0 1 ++ field.extractLsb' 1 4 ++ 0#1 : BitVec 6)

/-- A quad field with bit 1 set names no register (R34). -/
def quadFieldInvalid (field : Reg) : Bool := field.getLsbD 1

/-- FPRS.DL or FPRS.DU is set by a write of f register n: DL for f0..f31, DU for f32..f62 (R30). -/
def State.markDirty (s : State) (n : BitVec 6) : State :=
  { s with fprs := s.fprs ||| (if n.toNat < 32 then 0b001 else 0b010) }

/-- Floating-point instructions run when PSTATE.PEF = 1 and FPRS.FEF = 1 (42_fp_move_and_fsr.md
R200). -/
def State.fpEnabled (s : State) : Bool := s.pef && s.fef

/-! ### Window state registers (10_state.md R44, R45) -/

/-- The implemented bits of the five window registers (impl. dep. #126, R44). -/
def winregMask (p : Params) : BitVec 5 := BitVec.ofNat 5 (2 ^ p.winregBits - 1)

/-- A window register as software reads it: zero-extended from its implemented width (R44). -/
def winregRead (p : Params) (r : BitVec 5) : Word := (r &&& winregMask p).setWidth 64

/-- What a write of v stores in a window register: the implemented bits of v[4:0]; none when v[4:0]
is above NWINDOWS-1, whose effect is undefined (R44, R45). -/
def winregWrite (p : Params) (v : Word) : Option (BitVec 5) :=
  let x := v.extractLsb' 0 5
  if p.nwindows - 1 < x.toNat then none else some (x &&& winregMask p)

/-- A window register incremented, or none when the result is above NWINDOWS-1
(46_register_windows.md R318). -/
def winregInc (p : Params) (r : BitVec 5) : Option (BitVec 5) :=
  if p.nwindows - 1 < r.toNat + 1 then none else some (r + 1)

/-- A window register decremented, or none when it holds 0 (46_register_windows.md R318). -/
def winregDec (r : BitVec 5) : Option (BitVec 5) := if r = 0 then none else some (r - 1)

/-! ### The trap stack (10_state.md R39) -/

/-- A trap level as an index of the trap stack. -/
def tlIndex (tl : BitVec 3) : Fin 8 := ⟨tl.toNat, tl.isLt⟩

/-- TPC[TL], TNPC[TL], TSTATE[TL], TT[TL] at a level. -/
def State.trapRegs (s : State) (tl : BitVec 3) : TrapRegs := s.trapStack.get (tlIndex tl)

/-- The trap stack with one level replaced. -/
def State.setTrapRegs (s : State) (tl : BitVec 3) (r : TrapRegs) : State :=
  { s with trapStack := s.trapStack.set (tlIndex tl) r }

/-! ### Taking an exception (60_exceptions.md R368, R372 to R375) -/

/-- error_state: no state is saved (R375). -/
def State.enterErrorState (s : State) : State := { s with errorState := true }

/-- What a floating-point trap records in FSR: ftt, and for an IEEE_754_exception the single cexc bit
(R364, R382; 42_fp_move_and_fsr.md R201, R205). -/
def recordFp (e : Exc) (s : State) : State :=
  match e with
  | .fpExceptionIeee754 cexc => { s with fsr := fsrPutFtt (fsrPutCexc s.fsr cexc) 1 }
  | .fpExceptionOther ftt => { s with fsr := fsrPutFtt s.fsr ftt }
  | _ => s

/-- What a trap to a level saves: the interrupted PC and nPC with their upper 32 bits zero when
PSTATE.AM = 1, CCR, ASI, PSTATE and CWP, and the trap type (R372; 10_state.md R26, R40, R41). -/
def trapFrame (e : Exc) (s : State) : TrapRegs where
  tpc := s.maskAddr s.pc
  tnpc := s.maskAddr s.npc
  tstate := packTstate s.params s.ccr s.asi s.pstate s.cwp
  tt := e.tt

/-- CWP after a trap: adjusted by the window traps only (46_register_windows.md R313). -/
def trapCwp (e : Exc) (s : State) : BitVec 5 :=
  match e with
  | .cleanWindow => windowPlus s.params s.cwp 1
  | .spillNormal _ | .spillOther _ => windowPlus s.params s.cwp (s.cansave.toNat + 2)
  | .fillNormal _ | .fillOther _ => windowMinusOne s.params s.cwp
  | _ => s.cwp

/-- The trap vector TBA[63:15] :: (TL > 0) :: tt :: 00000, TL before the trap (R373). -/
def trapVector (tba : Word) (tl : BitVec 3) (tt : BitVec 9) : Word :=
  (tba.extractLsb' 15 49 ++ BitVec.ofBool (decide (tl ≠ 0)) ++ tt ++ 0#5 : BitVec 64)

/-- The RED_state vector RSTVaddr[63:8] :: offset (70_reset_and_hazards.md R421). -/
def redVectorAddr (p : Params) (offset : BitVec 8) : Word :=
  (p.rstvaddr.extractLsb' 8 56 ++ offset : BitVec 64)

/-- Normal trap entry (R372). -/
def normalTrap (e : Exc) (s : State) : State :=
  let vector := trapVector s.tba s.tl e.tt
  let saved := s.setTrapRegs (s.tl + 1) (trapFrame e s)
  { saved with
    tl := s.tl + 1
    pstate := trapPstate s.pstate
    cwp := trapCwp e s
    pc := vector
    npc := vector + 4 }

/-- RED_state trap entry: a trap at TL = MAXTL - 1, a trap while PSTATE.RED = 1, a reset; PSTATE.TLE,
and PSTATE.PID1 and PID0 where implemented, take drawn values (R374; 70_reset_and_hazards.md R422,
R424, R425; 10_state.md R58). -/
def redTrap (e : Exc) (s : State) : State :=
  let tl' : BitVec 3 := BitVec.ofNat 3 (min (s.tl.toNat + 1) s.params.maxtl)
  let vector := redVectorAddr s.params e.redVector
  let saved := s.setTrapRegs tl' (trapFrame e s)
  { saved with
    tl := tl'
    pstate := redPstate s.pstate (freeTle s.draws) (freePid s.draws) &&& pstateMask s.params
    cwp := trapCwp e s
    pc := vector
    npc := vector + 4
    draws := s.draws + 1 }

/-- Taking an exception that an instruction raises, SIR among them: error_state at TL = MAXTL, RED_state
entry at TL = MAXTL - 1, in RED_state or for a reset, else a normal trap (R368, R372, R374, R375;
70_reset_and_hazards.md R424). Resets from outside are externalReset and State.reset. -/
def takeTrap (e : Exc) (s : State) : State :=
  if s.params.maxtl ≤ s.tl.toNat then s.enterErrorState
  else if e.isReset || s.red || decide (s.tl.toNat + 1 = s.params.maxtl) then redTrap e (recordFp e s)
  else normalTrap e (recordFp e s)

/-- raise: the instruction is abandoned and the trap is taken (00_scope.md section 5). -/
def raise (e : Exc) (s : State) : Res := .next (takeTrap e s)

/-- The checks of an instruction in order: the first that holds raises its exception, and when none
holds the instruction goes on. -/
def raiseFirst (s : State) : List (Bool × Exc) → Res → Res
  | [], k => k
  | (c, e) :: checks, k => if c then raise e s else raiseFirst s checks k

/-- The watchdog and externally initiated resets, TL <- min(TL + 1, MAXTL)
(70_reset_and_hazards.md R425). No step of the model delivers one (D12, log 24). -/
def externalReset (e : Exc) (s : State) : State := { redTrap e s with errorState := false }

/-! ### Returning from a trap (60_exceptions.md R378) -/

/-- The state a return from a trap restores: CCR, ASI, PSTATE, CWP from TSTATE[TL], TL <- TL - 1, and
(PC, nPC) = (TNPC, TNPC + 4) for DONE or (TPC, TNPC) for RETRY (R378). -/
def restoreTrap (done : Bool) (s : State) : State :=
  let r := s.trapRegs s.tl
  { s with
    ccr := tstateCcr r.tstate
    asi := tstateAsi r.tstate
    pstate := tstatePstate r.tstate &&& pstateMask s.params
    cwp := tstateCwp r.tstate
    tl := s.tl - 1
    pc := if done then r.tnpc else r.tpc
    npc := if done then r.tnpc + 4 else r.tnpc }

/-- A return from a trap, DONE (true) or RETRY (false): privileged, and illegal at TL = 0 (R378). The
two instructions are out of scope and have no row (00_scope.md section 3); this is the operation the
spec describes (log 23). A saved CWP above NWINDOWS-1 and a saved MM = 3 stop as WRPR of them does
(45_state_register_access.md R297). -/
def returnFromTrap (done : Bool) (s : State) : Res :=
  raiseFirst s [(!s.priv, .privilegedOpcode), (decide (s.tl = 0), .illegalInstruction)]
    (if s.params.nwindows - 1 < (tstateCwp (s.trapRegs s.tl).tstate).toNat then
      .fault .windowRegisterOutOfRange
    else if (tstatePstate (s.trapRegs s.tl).tstate).extractLsb' 6 2 = 3 then
      .refused .reservedMemoryModel
    else .next (restoreTrap done s))

/-! ### Reserved register fields (00_scope.md R4) -/

/-- A write of v to a register goes on only where v has zeros in the register's reserved fields; a one
there is refused, not dropped (R4, D22, log 11). -/
def withReserved (reserved v : Word) (k : Res) : Res :=
  if v &&& reserved = 0 then k else .refused .reservedFieldWritten

/-! ### TICK (10_state.md R31, 70_reset_and_hazards.md R428) -/

/-- A read of TICK: the counter has advanced by a free amount since it was last read or written, and
the value read is the register's (R428, D30, log 10). -/
def State.drawTick (s : State) : State :=
  { s with
    tick := (s.tick.extractLsb' 63 1 ++ (s.tickCounter + freeTickElapsed s.draws) : BitVec 64)
    draws := s.draws + 1 }

end Sys2Proof.Machine
end

