-- ==== Sys2Proof/Machine/Operands.lean ====
section
/-! DEFINITION. Operand forms, effective addresses, address space identifiers and the checks and
accesses of memory instructions (spec/30_encoding.md R126 to R128; 20_memory.md R80 to R92, R100;
41_compare_and_swap.md R180; 43_loads.md R240; 47_stores.md R330). -/

namespace Sys2Proof.Machine

/-! ### Operands (30_encoding.md R126, R127) -/

/-- operand2 = (i = 0) ? x[rs2] : sext_13(simm13) (R126). -/
def State.operand2 (s : State) : Operand2 → Word
  | .reg rs2 => s.readReg rs2
  | .imm simm13 => simm13.signExtend 64

/-- The offset of an alternate-space form: x[rs2] with imm_asi, simm13 with the ASI register (R128). -/
def State.altOffset (s : State) : AltOperand → Word
  | .immAsi _ rs2 => s.readReg rs2
  | .asiReg simm13 => simm13.signExtend 64

/-- The ASI of an alternate-space form: imm_asi or the ASI register (20_memory.md R82). -/
def State.altAsi (s : State) : AltOperand → BitVec 8
  | .immAsi asi _ => asi
  | .asiReg _ => s.asi

/-- The ASI of CASA and CASXA (41_compare_and_swap.md R180). -/
def State.casAsi (s : State) : CasAsi → BitVec 8
  | .immAsi asi => asi
  | .asiReg => s.asi

/-- The value a MOVr moves: x[rs2] or sext_10(simm10) (44_movr_nop.md R260). -/
def State.movrOperand (s : State) : MovrOperand → Word
  | .reg rs2 => s.readReg rs2
  | .imm simm10 => simm10.signExtend 64

/-- The value WRASR and WRPR write: x[rs1] xor operand2 (45_state_register_access.md R289, R297). -/
def State.wrValue (s : State) (rs1 : Reg) (op2 : Operand2) : Word :=
  s.readReg rs1 ^^^ s.operand2 op2

/-! ### Effective addresses (30_encoding.md R128; 10_state.md R26) -/

/-- addr = x[rs1] + operand2, masked by PSTATE.AM. -/
def State.effAddr (s : State) (rs1 : Reg) (op2 : Operand2) : Word :=
  s.maskAddr (s.readReg rs1 + s.operand2 op2)

/-- The address of an alternate-space form, masked by PSTATE.AM. -/
def State.altAddr (s : State) (rs1 : Reg) (alt : AltOperand) : Word :=
  s.maskAddr (s.readReg rs1 + s.altOffset alt)

/-- The address of CASA and CASXA, x[rs1] with no offset, masked by PSTATE.AM (R180). -/
def State.casAddr (s : State) (rs1 : Reg) : Word := s.maskAddr (s.readReg rs1)

/-! ### Address space identifiers (20_memory.md R81, R82, R85) -/

/-- The ASIs of the table of R81; every other value is implementation-dependent and names no space
in this spec (D23). -/
def knownAsi (asi : BitVec 8) : Bool :=
  [0x04#8, 0x0C#8, 0x10#8, 0x11#8, 0x18#8, 0x19#8, 0x80#8, 0x81#8, 0x82#8, 0x83#8, 0x88#8, 0x89#8,
    0x8A#8, 0x8B#8].contains asi

/-- The little-endian ASIs (R85). -/
def littleAsi (asi : BitVec 8) : Bool :=
  [0x0C#8, 0x18#8, 0x19#8, 0x88#8, 0x89#8, 0x8A#8, 0x8B#8].contains asi

/-- The four NOFAULT ASIs, which admit loads only (R83). -/
def nofaultAsi (asi : BitVec 8) : Bool := [0x82#8, 0x83#8, 0x8A#8, 0x8B#8].contains asi

/-- ASIs 0x00..0x7F are restricted to privileged mode (R81). -/
def restrictedAsi (asi : BitVec 8) : Bool := decide (asi.toNat < 0x80)

/-- The ASI of a load or store without an ASI operand, by TL and PSTATE.CLE (R82). -/
def State.implicitAsi (s : State) : BitVec 8 :=
  if s.tl = 0 then (if s.cle then 0x88 else 0x80) else (if s.cle then 0x0C else 0x04)

/-- The ASI of an instruction fetch, by TL; always big-endian (R82, R86). -/
def State.fetchAsi (s : State) : BitVec 8 := if s.tl = 0 then 0x80 else 0x04

/-! ### Checks (20_memory.md R90; 43_loads.md R240; 41_compare_and_swap.md R180; 47_stores.md R330) -/

/-- The address is not a multiple of n (R90). -/
def misaligned (addr : Word) (n : Nat) : Bool := decide (addr.toNat % n ≠ 0)

/-- Check 1: alignment by the access size (R90). -/
def alignmentCheck (addr : Word) (n : Nat) : List (Bool × Exc) :=
  [(misaligned addr n, .memAddressNotAligned)]

/-- Checks 2 and 3 of an alternate form: a restricted ASI in nonprivileged mode, an unknown ASI. -/
def State.asiChecks (s : State) (asi : BitVec 8) : List (Bool × Exc) :=
  [(restrictedAsi asi && !s.priv, .privilegedAction), (!knownAsi asi, .dataAccessException)]

/-- Check 4 of a store or atomic in an alternate form: a NOFAULT ASI. -/
def nofaultCheck (asi : BitVec 8) : List (Bool × Exc) := [(nofaultAsi asi, .dataAccessException)]

/-- An odd rd in LDD, LDDA, STD, STDA (30_encoding.md R136). -/
def oddRdCheck (rd : Reg) : List (Bool × Exc) := [(rd.getLsbD 0, .illegalInstruction)]

/-- A disabled floating-point unit (42_fp_move_and_fsr.md R200). -/
def State.fpCheck (s : State) : List (Bool × Exc) := [(!s.fpEnabled, .fpDisabled)]

/-- The other register of an even-odd pair (43_loads.md R246). -/
def pairReg (rd : Reg) : Reg := rd + 1

/-! ### Accesses -/

/-- All n bytes at the address exist in the launch memory (92_eei_decisions.md D12). -/
def State.hasMemory (s : State) (addr : Word) (n : Nat) : Bool :=
  allInRanges s.launch.extent addr.toNat n

/-- One of the n bytes at the address is program text (20_memory.md R100, D27). -/
def State.touchesText (s : State) (addr : Word) (n : Nat) : Bool :=
  anyInRanges s.launch.text addr.toNat n

/-- A load of n bytes goes on only where there is memory (D12). -/
def withLoad (s : State) (addr : Word) (n : Nat) (k : Res) : Res :=
  if s.hasMemory addr n then k else .fault (.noMemoryAtAddress addr)

/-- A store or atomic of n bytes goes on only where there is memory and no program text (D12, D27). -/
def withStore (s : State) (addr : Word) (n : Nat) (k : Res) : Res :=
  if s.hasMemory addr n then
    (if s.touchesText addr n then .fault (.storeToProgramText addr) else k)
  else .fault (.noMemoryAtAddress addr)

/-- The n-byte value at an address in the byte order of an ASI (R85). -/
def State.loadValue (s : State) (asi : BitVec 8) (addr : Word) (n : Nat) : Nat :=
  bytesValue (littleAsi asi) (readBytes s.mem addr.toNat n)

/-- The low n bytes of a value stored at an address in the byte order of an ASI (R85). -/
def State.storeValue (s : State) (asi : BitVec 8) (addr : Word) (n : Nat) (v : Nat) : State :=
  { s with mem := writeBytes s.mem addr.toNat (valueBytes (littleAsi asi) n v) }

/-- The two words of an even-odd pair, each stored in the byte order of the ASI on its own, the even
register's at the lower address (R88). -/
def State.storePair (s : State) (asi : BitVec 8) (addr : Word) (e o : Word) : State :=
  (s.storeValue asi addr 4 (e.extractLsb' 0 32).toNat).storeValue asi (addr + 4) 4
    (o.extractLsb' 0 32).toNat

/-- The two words of a doubleword, each read in the byte order of the ASI on its own and
zero-extended: into the even register the one at the lower address, into the odd one the other
(R87). -/
def State.loadPair (s : State) (asi : BitVec 8) (addr : Word) (rd : Reg) : State :=
  (s.writeReg rd (BitVec.ofNat 64 (s.loadValue asi addr 4))).writeReg (pairReg rd)
    (BitVec.ofNat 64 (s.loadValue asi (addr + 4) 4))

end Sys2Proof.Machine
end

