-- ==== Sys2Proof/Machine/Atomics.lean ====
section
/-! DEFINITION. Compare-and-swap and swap: CASA, CASXA, SWAP (spec/41_compare_and_swap.md). -/

namespace Sys2Proof.Machine

/-- The checks common to CASA and CASXA, in order (R180). -/
def casChecks (s : State) (asi : BitVec 8) (addr : Word) (n : Nat) : List (Bool × Exc) :=
  alignmentCheck addr n ++ s.asiChecks asi ++ nofaultCheck asi

/-- One atomic compare-and-swap of n bytes: the old value is compared with the low n bytes of x[rs2],
on equality the low n bytes of x[rd] are stored, and in both cases the old value goes zero-extended to
x[rd] (R181, R182). -/
def compareAndSwap (s : State) (asi : BitVec 8) (addr : Word) (n : Nat) (rs2 rd : Reg) : State :=
  let old := s.loadValue asi addr n
  let s' :=
    if old = (s.readReg rs2).toNat % 2 ^ (8 * n) then
      s.storeValue asi addr n ((s.readReg rd).toNat % 2 ^ (8 * n))
    else s
  s'.writeReg rd (BitVec.ofNat 64 old)

/-- CASA and CASXA on n bytes (R180 to R182; 20_memory.md R99). -/
def casN (n : Nat) (rd rs1 : Reg) (asi : CasAsi) (rs2 : Reg) (s : State) : Res :=
  raiseFirst s (casChecks s (s.casAsi asi) (s.casAddr rs1) n)
    (withStore s (s.casAddr rs1) n
      (.next (compareAndSwap s (s.casAsi asi) (s.casAddr rs1) n rs2 rd).advance))

/-- One atomic swap of a word: the old word goes zero-extended to x[rd], the low word of x[rd] to
memory (R184). -/
def swapWord (s : State) (asi : BitVec 8) (addr : Word) (rd : Reg) : State :=
  (s.storeValue asi addr 4 ((s.readReg rd).toNat % 2 ^ 32)).writeReg rd
    (BitVec.ofNat 64 (s.loadValue asi addr 4))

/-- CASA (R181). -/
def execCasa (rd : Reg) (rs1 : Reg) (asi : CasAsi) (rs2 : Reg) (s : State) : Res :=
  casN 4 rd rs1 asi rs2 s

/-- CASXA (R182). -/
def execCasxa (rd : Reg) (rs1 : Reg) (asi : CasAsi) (rs2 : Reg) (s : State) : Res :=
  casN 8 rd rs1 asi rs2 s

/-- SWAP (R184). -/
def execSwap (rd : Reg) (rs1 : Reg) (op2 : Operand2) (s : State) : Res :=
  raiseFirst s (alignmentCheck (s.effAddr rs1 op2) 4)
    (withStore s (s.effAddr rs1 op2) 4
      (.next (swapWord s s.implicitAsi (s.effAddr rs1 op2) rd).advance))

end Sys2Proof.Machine
end

