-- ==== Sys2Proof/WellFormed.lean ====
section
/-! DEFINITION. Well-formed instructions: the operand values the encoding admits. Every other field
of every constructor has exactly the width of its encoding, so it admits every value. -/

namespace Sys2Proof

/-- The well-formedness check: RDASR and WRASR rows 16..31 hold a register number in 16..31
(45_state_register_access.md R288, R294). -/
def Instr.wf : Instr → Bool
  | .bn _ _ => true
  | .be _ _ => true
  | .ble _ _ => true
  | .bl _ _ => true
  | .bleu _ _ => true
  | .bcs _ _ => true
  | .bneg _ _ => true
  | .bvs _ _ => true
  | .ba _ _ => true
  | .bne _ _ => true
  | .bg _ _ => true
  | .bge _ _ => true
  | .bgu _ _ => true
  | .bcc _ _ => true
  | .bpos _ _ => true
  | .bvc _ _ => true
  | .bpn _ _ _ _ => true
  | .bpe _ _ _ _ => true
  | .bple _ _ _ _ => true
  | .bpl _ _ _ _ => true
  | .bpleu _ _ _ _ => true
  | .bpcs _ _ _ _ => true
  | .bpneg _ _ _ _ => true
  | .bpvs _ _ _ _ => true
  | .bpa _ _ _ _ => true
  | .bpne _ _ _ _ => true
  | .bpg _ _ _ _ => true
  | .bpge _ _ _ _ => true
  | .bpgu _ _ _ _ => true
  | .bpcc _ _ _ _ => true
  | .bppos _ _ _ _ => true
  | .bpvc _ _ _ _ => true
  | .brz _ _ _ _ => true
  | .brlez _ _ _ _ => true
  | .brlz _ _ _ _ => true
  | .brnz _ _ _ _ => true
  | .brgz _ _ _ _ => true
  | .brgez _ _ _ _ => true
  | .fbn _ _ => true
  | .fbne _ _ => true
  | .fblg _ _ => true
  | .fbul _ _ => true
  | .fbl _ _ => true
  | .fbug _ _ => true
  | .fbg _ _ => true
  | .fbu _ _ => true
  | .fba _ _ => true
  | .fbe _ _ => true
  | .fbue _ _ => true
  | .fbge _ _ => true
  | .fbuge _ _ => true
  | .fble _ _ => true
  | .fbule _ _ => true
  | .fbo _ _ => true
  | .fbpn _ _ _ _ => true
  | .fbpne _ _ _ _ => true
  | .fbplg _ _ _ _ => true
  | .fbpul _ _ _ _ => true
  | .fbpl _ _ _ _ => true
  | .fbpug _ _ _ _ => true
  | .fbpg _ _ _ _ => true
  | .fbpu _ _ _ _ => true
  | .fbpa _ _ _ _ => true
  | .fbpe _ _ _ _ => true
  | .fbpue _ _ _ _ => true
  | .fbpge _ _ _ _ => true
  | .fbpuge _ _ _ _ => true
  | .fbple _ _ _ _ => true
  | .fbpule _ _ _ _ => true
  | .fbpo _ _ _ _ => true
  | .nop => true
  | .casa _ _ _ _ => true
  | .casxa _ _ _ _ => true
  | .swap _ _ _ => true
  | .fmovscc_fcc0 _ _ _ => true
  | .fmovscc_fcc1 _ _ _ => true
  | .fmovscc_fcc2 _ _ _ => true
  | .fmovscc_fcc3 _ _ _ => true
  | .fmovscc_icc _ _ _ => true
  | .fmovscc_xcc _ _ _ => true
  | .fmovdcc_fcc0 _ _ _ => true
  | .fmovdcc_fcc1 _ _ _ => true
  | .fmovdcc_fcc2 _ _ _ => true
  | .fmovdcc_fcc3 _ _ _ => true
  | .fmovdcc_icc _ _ _ => true
  | .fmovdcc_xcc _ _ _ => true
  | .fmovqcc_fcc0 _ _ _ => true
  | .fmovqcc_fcc1 _ _ _ => true
  | .fmovqcc_fcc2 _ _ _ => true
  | .fmovqcc_fcc3 _ _ _ => true
  | .fmovqcc_icc _ _ _ => true
  | .fmovqcc_xcc _ _ _ => true
  | .fmovrsz _ _ _ => true
  | .fmovrslez _ _ _ => true
  | .fmovrslz _ _ _ => true
  | .fmovrsnz _ _ _ => true
  | .fmovrsgz _ _ _ => true
  | .fmovrsgez _ _ _ => true
  | .fmovrdz _ _ _ => true
  | .fmovrdlez _ _ _ => true
  | .fmovrdlz _ _ _ => true
  | .fmovrdnz _ _ _ => true
  | .fmovrdgz _ _ _ => true
  | .fmovrdgez _ _ _ => true
  | .fmovrqz _ _ _ => true
  | .fmovrqlez _ _ _ => true
  | .fmovrqlz _ _ _ => true
  | .fmovrqnz _ _ _ => true
  | .fmovrqgz _ _ _ => true
  | .fmovrqgez _ _ _ => true
  | .movrz _ _ _ => true
  | .movrlez _ _ _ => true
  | .movrlz _ _ _ => true
  | .movrnz _ _ _ => true
  | .movrgz _ _ _ => true
  | .movrgez _ _ _ => true
  | .ldf _ _ _ => true
  | .lddf _ _ _ => true
  | .ldqf _ _ _ => true
  | .ldfsr _ _ => true
  | .ldxfsr _ _ => true
  | .ldd _ _ _ => true
  | .ldda _ _ _ => true
  | .stb _ _ _ => true
  | .sth _ _ _ => true
  | .stw _ _ _ => true
  | .stx _ _ _ => true
  | .std _ _ _ => true
  | .stba _ _ _ => true
  | .stha _ _ _ => true
  | .stwa _ _ _ => true
  | .stxa _ _ _ => true
  | .stda _ _ _ => true
  | .rdy _ => true
  | .rdccr _ => true
  | .rdasi _ => true
  | .rdtick _ => true
  | .rdpc _ => true
  | .rdfprs _ => true
  | .rdasr16_31 _ rs1 => decide (16 ≤ rs1.toNat)
  | .wry _ _ => true
  | .wrccr _ _ => true
  | .wrasi _ _ => true
  | .wrfprs _ _ => true
  | .wrasr16_31 rd _ _ => decide (16 ≤ rd.toNat)
  | .sir _ => true
  | .rdpr _ _ => true
  | .wrpr _ _ _ => true
  | .save _ _ _ => true
  | .restore _ _ _ => true
  | .saved => true
  | .restored => true
  | .taddcc _ _ _ => true
  | .taddcctv _ _ _ => true

end Sys2Proof
end

