-- ==== Sys2Proof/Decode.lean ====
section
/-! DEFINITION. The decoder, total on every instruction word and rejecting by name, and the encoder,
both written from spec/30_encoding.md (R120 to R137) and spec/opcode_table.json. -/

namespace Sys2Proof

/-! ### Condition and selector codes (30_encoding.md R134) -/

/-- Integer cond field to condition (R134). -/
def ICond.ofBits (b : BitVec 4) : ICond :=
  match b.toNat with
  | 0 => .n
  | 1 => .e
  | 2 => .le
  | 3 => .l
  | 4 => .leu
  | 5 => .cs
  | 6 => .neg
  | 7 => .vs
  | 8 => .a
  | 9 => .ne
  | 10 => .g
  | 11 => .ge
  | 12 => .gu
  | 13 => .cc
  | 14 => .pos
  | _ => .vc

/-- Integer condition to cond field (R134). -/
def ICond.toBits : ICond → BitVec 4
  | .n => 0
  | .e => 1
  | .le => 2
  | .l => 3
  | .leu => 4
  | .cs => 5
  | .neg => 6
  | .vs => 7
  | .a => 8
  | .ne => 9
  | .g => 10
  | .ge => 11
  | .gu => 12
  | .cc => 13
  | .pos => 14
  | .vc => 15

/-- Floating-point cond field to condition (R134). -/
def FCond.ofBits (b : BitVec 4) : FCond :=
  match b.toNat with
  | 0 => .n
  | 1 => .ne
  | 2 => .lg
  | 3 => .ul
  | 4 => .l
  | 5 => .ug
  | 6 => .g
  | 7 => .u
  | 8 => .a
  | 9 => .e
  | 10 => .ue
  | 11 => .ge
  | 12 => .uge
  | 13 => .le
  | 14 => .ule
  | _ => .o

/-- Floating-point condition to cond field (R134). -/
def FCond.toBits : FCond → BitVec 4
  | .n => 0
  | .ne => 1
  | .lg => 2
  | .ul => 3
  | .l => 4
  | .ug => 5
  | .g => 6
  | .u => 7
  | .a => 8
  | .e => 9
  | .ue => 10
  | .ge => 11
  | .uge => 12
  | .le => 13
  | .ule => 14
  | .o => 15

/-- rcond field to condition; 000 and 100 are reserved (R134). -/
def RCond.ofBits (b : BitVec 3) : Option RCond :=
  match b.toNat with
  | 1 => some .z
  | 2 => some .lez
  | 3 => some .lz
  | 5 => some .nz
  | 6 => some .gz
  | 7 => some .gez
  | _ => none

/-- Register condition to rcond field (R134). -/
def RCond.toBits : RCond → BitVec 3
  | .z => 1
  | .lez => 2
  | .lz => 3
  | .nz => 5
  | .gz => 6
  | .gez => 7

/-- cc1 cc0 of FBPfcc, and opf_cc 0xx of FMOVcc, to fcc0..fcc3 (R134). -/
def FccSel.ofBits (b : BitVec 2) : FccSel :=
  match b.toNat with
  | 0 => .fcc0
  | 1 => .fcc1
  | 2 => .fcc2
  | _ => .fcc3

/-- fcc0..fcc3 to their two-bit selector (R134). -/
def FccSel.toBits : FccSel → BitVec 2
  | .fcc0 => 0
  | .fcc1 => 1
  | .fcc2 => 2
  | .fcc3 => 3

/-- The two low bits that tell the sizes apart: opf_low 000001, 000010, 000011 of FMOVcc (R201) and
00101, 00110, 00111 of FMOVr (R202). -/
def FpSize.ofBits (b : BitVec 2) : Option FpSize :=
  match b.toNat with
  | 1 => some .single
  | 2 => some .double
  | 3 => some .quad
  | _ => none

/-- The size's two low opf_low bits (R201, R202). -/
def FpSize.toBits : FpSize → BitVec 2
  | .single => 1
  | .double => 2
  | .quad => 3

/-! ### From operands to the constructor of each row -/

/-- The Bicc row of a condition (R163): BA, BN, BNE, ... -/
def mkBicc : ICond → Bool → BitVec 22 → Instr
  | .n => .bn
  | .e => .be
  | .le => .ble
  | .l => .bl
  | .leu => .bleu
  | .cs => .bcs
  | .neg => .bneg
  | .vs => .bvs
  | .a => .ba
  | .ne => .bne
  | .g => .bg
  | .ge => .bge
  | .gu => .bgu
  | .cc => .bcc
  | .pos => .bpos
  | .vc => .bvc

/-- The BPcc row of a condition (R164): BPA, BPN, BPNE, ... -/
def mkBpcc : ICond → Bool → CcSel → Bool → BitVec 19 → Instr
  | .n => .bpn
  | .e => .bpe
  | .le => .bple
  | .l => .bpl
  | .leu => .bpleu
  | .cs => .bpcs
  | .neg => .bpneg
  | .vs => .bpvs
  | .a => .bpa
  | .ne => .bpne
  | .g => .bpg
  | .ge => .bpge
  | .gu => .bpgu
  | .cc => .bpcc
  | .pos => .bppos
  | .vc => .bpvc

/-- The BPr row of a condition (R165): BRZ, BRLEZ, ... -/
def mkBpr : RCond → Bool → Bool → Reg → BitVec 16 → Instr
  | .z => .brz
  | .lez => .brlez
  | .lz => .brlz
  | .nz => .brnz
  | .gz => .brgz
  | .gez => .brgez

/-- The FBfcc row of a condition (R166): FBA, FBN, ... -/
def mkFbfcc : FCond → Bool → BitVec 22 → Instr
  | .n => .fbn
  | .ne => .fbne
  | .lg => .fblg
  | .ul => .fbul
  | .l => .fbl
  | .ug => .fbug
  | .g => .fbg
  | .u => .fbu
  | .a => .fba
  | .e => .fbe
  | .ue => .fbue
  | .ge => .fbge
  | .uge => .fbuge
  | .le => .fble
  | .ule => .fbule
  | .o => .fbo

/-- The FBPfcc row of a condition (R167): FBPA, FBPN, ... -/
def mkFbpfcc : FCond → Bool → FccSel → Bool → BitVec 19 → Instr
  | .n => .fbpn
  | .ne => .fbpne
  | .lg => .fbplg
  | .ul => .fbpul
  | .l => .fbpl
  | .ug => .fbpug
  | .g => .fbpg
  | .u => .fbpu
  | .a => .fbpa
  | .e => .fbpe
  | .ue => .fbpue
  | .ge => .fbpge
  | .uge => .fbpuge
  | .le => .fbple
  | .ule => .fbpule
  | .o => .fbpo

/-- The FMOVcc row of a size and a floating-point selector (R217 to R219). -/
def mkFmovFcc : FpSize → FccSel → FCond → Reg → Reg → Instr
  | .single, .fcc0 => .fmovscc_fcc0
  | .single, .fcc1 => .fmovscc_fcc1
  | .single, .fcc2 => .fmovscc_fcc2
  | .single, .fcc3 => .fmovscc_fcc3
  | .double, .fcc0 => .fmovdcc_fcc0
  | .double, .fcc1 => .fmovdcc_fcc1
  | .double, .fcc2 => .fmovdcc_fcc2
  | .double, .fcc3 => .fmovdcc_fcc3
  | .quad, .fcc0 => .fmovqcc_fcc0
  | .quad, .fcc1 => .fmovqcc_fcc1
  | .quad, .fcc2 => .fmovqcc_fcc2
  | .quad, .fcc3 => .fmovqcc_fcc3

/-- The FMOVcc row of a size and an integer selector (R217 to R219). -/
def mkFmovIcc : FpSize → CcSel → ICond → Reg → Reg → Instr
  | .single, .icc => .fmovscc_icc
  | .single, .xcc => .fmovscc_xcc
  | .double, .icc => .fmovdcc_icc
  | .double, .xcc => .fmovdcc_xcc
  | .quad, .icc => .fmovqcc_icc
  | .quad, .xcc => .fmovqcc_xcc

/-- The FMOVr row of a size and a register condition (R220 to R222). -/
def mkFmovr : FpSize → RCond → Reg → Reg → Reg → Instr
  | .single, .z => .fmovrsz
  | .single, .lez => .fmovrslez
  | .single, .lz => .fmovrslz
  | .single, .nz => .fmovrsnz
  | .single, .gz => .fmovrsgz
  | .single, .gez => .fmovrsgez
  | .double, .z => .fmovrdz
  | .double, .lez => .fmovrdlez
  | .double, .lz => .fmovrdlz
  | .double, .nz => .fmovrdnz
  | .double, .gz => .fmovrdgz
  | .double, .gez => .fmovrdgez
  | .quad, .z => .fmovrqz
  | .quad, .lez => .fmovrqlez
  | .quad, .lz => .fmovrqlz
  | .quad, .nz => .fmovrqnz
  | .quad, .gz => .fmovrqgz
  | .quad, .gez => .fmovrqgez

/-- The MOVr row of a register condition (R261 to R266). -/
def mkMovr : RCond → Reg → Reg → MovrOperand → Instr
  | .z => .movrz
  | .lez => .movrlez
  | .lz => .movrlz
  | .nz => .movrnz
  | .gz => .movrgz
  | .gez => .movrgez

/-! ### Fields of a word (30_encoding.md R122) -/

/-- op, bits 31:30 (R121). -/
def fOp (w : IWord) : BitVec 2 := w.extractLsb' 30 2

/-- rd or fcn, bits 29:25. -/
def fRd (w : IWord) : Reg := w.extractLsb' 25 5

/-- a, bit 29: the annul bit. -/
def fA (w : IWord) : Bool := w.getLsbD 29

/-- cond of a branch, bits 28:25. -/
def fCond (w : IWord) : BitVec 4 := w.extractLsb' 25 4

/-- op2, bits 24:22. -/
def fOp2 (w : IWord) : BitVec 3 := w.extractLsb' 22 3

/-- Bits 21:0 of a format 2 word: imm22, disp22, or the finer fields of R123. -/
def fLow22 (w : IWord) : BitVec 22 := w.extractLsb' 0 22

/-- op3, bits 24:19. -/
def fOp3 (w : IWord) : BitVec 6 := w.extractLsb' 19 6

/-- rs1, bits 18:14. -/
def fRs1 (w : IWord) : Reg := w.extractLsb' 14 5

/-- Bits 13:0 of a format 3 or 4 word: i and what follows it. -/
def fLow14 (w : IWord) : BitVec 14 := w.extractLsb' 0 14

/-! ### What a word that is no row is -/

/-- Why a word is not an instruction of the model. -/
inductive DecodeStop where
  /-- An illegal encoding: raises illegal_instruction (30_encoding.md R136, R129 row 111). -/
  | illegal
  /-- An illegal encoding of a privileged opcode: privileged_opcode when PSTATE.PRIV = 0, else
  illegal_instruction (46_register_windows.md R310; 45_state_register_access.md R296, R297). -/
  | illegalPrivileged
  /-- FMOVcc with opf_cc 101 or 111 (42_fp_move_and_fsr.md R201). -/
  | reservedFmovSelector
  /-- FMOVr with rcond 000 or 100 (42_fp_move_and_fsr.md R202). -/
  | reservedFmovCondition
  /-- A nonzero reserved bit in a row's word (30_encoding.md R135). -/
  | reservedBits
  /-- RDPR or WRPR of TPC, TNPC, TSTATE or TT with a nonzero reserved bit: at TL = 0 an illegal
  encoding of a privileged opcode, which D28 lets win, else refused (R135, R136, log 14). -/
  | trapRegisterReservedBits
  /-- An instruction out of scope that the spec names (00_scope.md section 3). -/
  | outOfScope (name : String)
  /-- An op, op3 pair that is no in-scope instruction (30_encoding.md R130, R132). -/
  | unlistedOpcode (op op3 : Nat)
  /-- Fewer than four bytes: no instruction word (30_encoding.md R120). -/
  | tooShort
  deriving DecidableEq, Repr

/-- What a word decodes to. -/
inductive Decoded where
  | instr (i : Instr)
  | stop (d : DecodeStop)
  deriving DecidableEq, Repr

/-! ### The decoder -/

/-- Forms (a) and (b): operand2 from bits 13:0; none when the reserved bits 12:5 of form (a) are not
zero (R124, R126). -/
def decodeOperand2 (low : BitVec 14) : Option Operand2 :=
  if low.getLsbD 13 then some (.imm (low.extractLsb' 0 13))
  else if low.extractLsb' 5 8 = 0 then some (.reg (low.extractLsb' 0 5))
  else none

/-- Forms (c) and (b) of the alternate-space loads and stores (R124, R128). -/
def decodeAlt (low : BitVec 14) : AltOperand :=
  if low.getLsbD 13 then .asiReg (low.extractLsb' 0 13)
  else .immAsi (low.extractLsb' 5 8) (low.extractLsb' 0 5)

/-- Forms (c) and (d) of CASA and CASXA; none when the reserved bits 12:5 of form (d) are not zero
(R124). -/
def decodeCasAsi (low : BitVec 14) : Option CasAsi :=
  if low.getLsbD 13 then (if low.extractLsb' 5 8 = 0 then some .asiReg else none)
  else some (.immAsi (low.extractLsb' 5 8))

/-- Forms (e) and (f) of MOVr; none when the reserved bits 9:5 of form (e) are not zero (R124,
R260). -/
def decodeMovrOperand (low : BitVec 14) : Option MovrOperand :=
  if low.getLsbD 13 then some (.imm (low.extractLsb' 0 10))
  else if low.extractLsb' 5 5 = 0 then some (.reg (low.extractLsb' 0 5))
  else none

/-- An instruction with an operand, or the stop for its nonzero reserved bits (R135). -/
def withOperand {α : Type} (o : Option α) (stop : DecodeStop) (k : α → Instr) : Decoded :=
  match o with
  | some v => .instr (k v)
  | none => .stop stop

/-- A doubleword-pair instruction (LDD, LDDA, STD, STDA): an odd rd is an illegal encoding whatever
the reserved bits hold (R136). -/
def pairStop (rd : Reg) : DecodeStop := if rd.getLsbD 0 then .illegal else .reservedBits

/-- op = 0 (R123, R129). -/
def decodeFormat2 (w : IWord) : Decoded :=
  let low := fLow22 w
  match (fOp2 w).toNat with
  | 0 => .stop (.outOfScope "ILLTRAP")
  | 1 =>
    if low.getLsbD 20 then .stop .illegal
    else .instr (mkBpcc (ICond.ofBits (fCond w)) (fA w) (if low.getLsbD 21 then .xcc else .icc)
      (low.getLsbD 19) (low.extractLsb' 0 19))
  | 2 => .instr (mkBicc (ICond.ofBits (fCond w)) (fA w) low)
  | 3 =>
    if (fCond w).getLsbD 3 then .stop .illegal
    else
      match RCond.ofBits ((fCond w).extractLsb' 0 3) with
      | none => .stop .illegal
      | some c => .instr (mkBpr c (fA w) (low.getLsbD 19) (low.extractLsb' 14 5)
          (low.extractLsb' 20 2 ++ low.extractLsb' 0 14))
  | 4 => if fRd w = 0 ∧ low = 0 then .instr .nop else .stop (.outOfScope "SETHI")
  | 5 => .instr (mkFbpfcc (FCond.ofBits (fCond w)) (fA w) (FccSel.ofBits (low.extractLsb' 20 2))
      (low.getLsbD 19) (low.extractLsb' 0 19))
  | 6 => .instr (mkFbfcc (FCond.ofBits (fCond w)) (fA w) low)
  | _ => .stop .illegal

/-- The RDASR family, op3 = 10 1000 (45_state_register_access.md R280). -/
def decodeRdasr (rd rs1 : Reg) (low : BitVec 14) : Decoded :=
  let row (i : Instr) : Decoded := if low = 0 then .instr i else .stop .reservedBits
  match rs1.toNat with
  | 0 => row (.rdy rd)
  | 2 => row (.rdccr rd)
  | 3 => row (.rdasi rd)
  | 4 => row (.rdtick rd)
  | 5 => row (.rdpc rd)
  | 6 => row (.rdfprs rd)
  | 15 => .stop (.outOfScope "STBAR or MEMBAR")
  | n => if 16 ≤ n ∧ low = 0 then .instr (.rdasr16_31 rd rs1) else .stop .illegal

/-- The WRASR family and SIR, op3 = 11 0000 (45_state_register_access.md R289, R295). -/
def decodeWrasr (rd rs1 : Reg) (low : BitVec 14) : Decoded :=
  let o := decodeOperand2 low
  match rd.toNat with
  | 0 => withOperand o .reservedBits (.wry rs1)
  | 2 => withOperand o .reservedBits (.wrccr rs1)
  | 3 => withOperand o .reservedBits (.wrasi rs1)
  | 6 => withOperand o .reservedBits (.wrfprs rs1)
  | 15 => if rs1 = 0 ∧ low.getLsbD 13 then .instr (.sir (low.extractLsb' 0 13)) else .stop .illegal
  | n => if 16 ≤ n then withOperand o .illegal (.wrasr16_31 rd rs1) else .stop .illegal

/-- SAVED and RESTORED, op3 = 11 0001 (46_register_windows.md R310). -/
def decodeSaved (fcn rs1 : Reg) (low : BitVec 14) : Decoded :=
  match fcn.toNat with
  | 0 => if rs1 = 0 ∧ low = 0 then .instr .saved else .stop .reservedBits
  | 1 => if rs1 = 0 ∧ low = 0 then .instr .restored else .stop .reservedBits
  | _ => .stop .illegalPrivileged

/-- What an RDPR or WRPR word with a nonzero reserved bit is, by its privileged register: illegal where
the instruction may not name the register, illegal at TL = 0 for a register of the trap stack, else
refused (R135, R136, D28, log 14). -/
def privStop (unlisted : Bool) (n : Reg) : DecodeStop :=
  if unlisted then .illegalPrivileged
  else if n.toNat ≤ 3 then .trapRegisterReservedBits
  else .reservedBits

/-- RDPR, op3 = 10 1010 (45_state_register_access.md R296). FQ (15) and 16..30 are illegal whatever
the reserved bits hold (D28, log 14). -/
def decodeRdpr (rd rs1 : Reg) (low : BitVec 14) : Decoded :=
  if low = 0 then .instr (.rdpr rd rs1)
  else .stop (privStop (decide (15 ≤ rs1.toNat ∧ rs1.toNat ≤ 30)) rs1)

/-- WRPR, op3 = 11 0010 (45_state_register_access.md R297). Registers 15 to 31 are illegal whatever
the reserved bits hold (D28, log 14). -/
def decodeWrpr (rd rs1 : Reg) (low : BitVec 14) : Decoded :=
  withOperand (decodeOperand2 low) (privStop (decide (15 ≤ rd.toNat)) rd) (.wrpr rd rs1)

/-- MOVr, op3 = 10 1111 (44_movr_nop.md R260). -/
def decodeMovr (rd rs1 : Reg) (low : BitVec 14) : Decoded :=
  match RCond.ofBits (low.extractLsb' 10 3) with
  | none => .stop .illegal
  | some c => withOperand (decodeMovrOperand low) .reservedBits (mkMovr c rd rs1)

/-- FMOVcc among the FPop2 words, op3 = 11 0101: bit 18 is 0 and bits 10:5 are 000001, 000010 or
000011 (30_encoding.md R125, R137; 42_fp_move_and_fsr.md R201). -/
def decodeFmovcc (rd rs1 : Reg) (low : BitVec 14) (size : FpSize) : Decoded :=
  let cond := rs1.extractLsb' 0 4
  if !low.getLsbD 13 then
    .instr (mkFmovFcc size (FccSel.ofBits (low.extractLsb' 11 2)) (FCond.ofBits cond) rd
      (low.extractLsb' 0 5))
  else if low.getLsbD 11 then .stop .reservedFmovSelector
  else .instr (mkFmovIcc size (if low.getLsbD 12 then .xcc else .icc) (ICond.ofBits cond) rd
    (low.extractLsb' 0 5))

/-- FMOVr among the FPop2 words: bit 13 is 0 and bits 9:5 are 00101, 00110 or 00111
(30_encoding.md R124 form (i), R137; 42_fp_move_and_fsr.md R202). -/
def decodeFmovr (rd rs1 : Reg) (low : BitVec 14) (size : FpSize) : Decoded :=
  match RCond.ofBits (low.extractLsb' 10 3) with
  | none => .stop .reservedFmovCondition
  | some c => .instr (mkFmovr size c rd rs1 (low.extractLsb' 0 5))

/-- FPop2, op3 = 11 0101 (30_encoding.md R130, R137). -/
def decodeFpop2 (rd rs1 : Reg) (low : BitVec 14) : Decoded :=
  match FpSize.ofBits (low.extractLsb' 5 2) with
  | none => .stop (.unlistedOpcode 2 0x35)
  | some size =>
    if low.extractLsb' 7 3 = 1 ∧ low.getLsbD 13 = false then decodeFmovr rd rs1 low size
    else if low.extractLsb' 7 4 = 0 ∧ rs1.getLsbD 4 = false then decodeFmovcc rd rs1 low size
    else .stop (.unlistedOpcode 2 0x35)

/-- op = 2 (R130). -/
def decodeArith (w : IWord) : Decoded :=
  let rd := fRd w
  let rs1 := fRs1 w
  let low := fLow14 w
  let o := decodeOperand2 low
  match (fOp3 w).toNat with
  | 0x20 => withOperand o .reservedBits (.taddcc rd rs1)
  | 0x21 => .stop (.outOfScope "TSUBcc")
  | 0x22 => withOperand o .reservedBits (.taddcctv rd rs1)
  | 0x23 => .stop (.outOfScope "TSUBccTV")
  | 0x28 => decodeRdasr rd rs1 low
  | 0x2A => decodeRdpr rd rs1 low
  | 0x2F => decodeMovr rd rs1 low
  | 0x30 => decodeWrasr rd rs1 low
  | 0x31 => decodeSaved rd rs1 low
  | 0x32 => decodeWrpr rd rs1 low
  | 0x35 => decodeFpop2 rd rs1 low
  | 0x36 => .stop (.outOfScope "IMPDEP1")
  | 0x37 => .stop (.outOfScope "IMPDEP2")
  | 0x3C => withOperand o .reservedBits (.save rd rs1)
  | 0x3D => withOperand o .reservedBits (.restore rd rs1)
  | n => .stop (.unlistedOpcode 2 n)

/-- op3 = 10 0001 with op = 3: LDFSR (rd = 0), LDXFSR (rd = 1), else illegal (R132, R136). -/
def decodeLdfsr (rd rs1 : Reg) (low : BitVec 14) : Decoded :=
  match rd.toNat with
  | 0 => withOperand (decodeOperand2 low) .reservedBits (.ldfsr rs1)
  | 1 => withOperand (decodeOperand2 low) .reservedBits (.ldxfsr rs1)
  | _ => .stop .illegal

/-- op = 3 (R132). -/
def decodeMem (w : IWord) : Decoded :=
  let rd := fRd w
  let rs1 := fRs1 w
  let low := fLow14 w
  let o := decodeOperand2 low
  match (fOp3 w).toNat with
  | 0x03 => withOperand o (pairStop rd) (.ldd rd rs1)
  | 0x04 => withOperand o .reservedBits (.stw rd rs1)
  | 0x05 => withOperand o .reservedBits (.stb rd rs1)
  | 0x06 => withOperand o .reservedBits (.sth rd rs1)
  | 0x07 => withOperand o (pairStop rd) (.std rd rs1)
  | 0x0E => withOperand o .reservedBits (.stx rd rs1)
  | 0x0F => withOperand o .reservedBits (.swap rd rs1)
  | 0x13 => .instr (.ldda rd rs1 (decodeAlt low))
  | 0x14 => .instr (.stwa rd rs1 (decodeAlt low))
  | 0x15 => .instr (.stba rd rs1 (decodeAlt low))
  | 0x16 => .instr (.stha rd rs1 (decodeAlt low))
  | 0x17 => .instr (.stda rd rs1 (decodeAlt low))
  | 0x1E => .instr (.stxa rd rs1 (decodeAlt low))
  | 0x20 => withOperand o .reservedBits (.ldf rd rs1)
  | 0x21 => decodeLdfsr rd rs1 low
  | 0x22 => withOperand o .reservedBits (.ldqf rd rs1)
  | 0x23 => withOperand o .reservedBits (.lddf rd rs1)
  | 0x3C => withOperand (decodeCasAsi low) .reservedBits
      (fun asi => .casa rd rs1 asi (low.extractLsb' 0 5))
  | 0x3E => withOperand (decodeCasAsi low) .reservedBits
      (fun asi => .casxa rd rs1 asi (low.extractLsb' 0 5))
  | n => .stop (.unlistedOpcode 3 n)

/-- The decoder of an instruction word (R121; R137: the rows are disjoint, order does not matter). -/
def decode (w : IWord) : Decoded :=
  match (fOp w).toNat with
  | 0 => decodeFormat2 w
  | 1 => .stop (.outOfScope "CALL")
  | 2 => decodeArith w
  | _ => decodeMem w

/-- The word of four bytes, the one at the lowest address the most significant (20_memory.md R86). -/
def iwordOfBytes (b0 b1 b2 b3 : Byte) : IWord := b0 ++ b1 ++ b2 ++ b3

/-- The four bytes of a word as fetch finds them, lowest address first (20_memory.md R86). -/
def iwordBytes (w : IWord) : List Byte :=
  [w.extractLsb' 24 8, w.extractLsb' 16 8, w.extractLsb' 8 8, w.extractLsb' 0 8]

/-- The decoder on bytes in memory order; only the first four are an instruction (R120). -/
def decodeBytes : List Byte → Decoded
  | b0 :: b1 :: b2 :: b3 :: _ => decode (iwordOfBytes b0 b1 b2 b3)
  | _ => .stop .tooShort

/-- The instruction the decoder reads from a row's bits, numbered as spec/opcode_table.json numbers
them: one 32-bit word, laid out big-endian. Every bit from nbits up is 0. -/
def decodeTableWord (nbits w : Nat) : Option Instr :=
  match decodeBytes (iwordBytes (BitVec.ofNat 32 (w % 2 ^ nbits))) with
  | .instr i => some i
  | .stop _ => none

/-- The word is an in-scope branch: Bicc, BPcc, BPr, FBfcc or FBPfcc, that is an instruction with
op = 0 that is not NOP (30_encoding.md R129; 40_branches.md R162). -/
def isBranchWord (w : IWord) : Bool :=
  match decode w with
  | .instr _ => decide (fOp w = 0) && !decide (fOp2 w = 4)
  | .stop _ => false

/-! ### The encoder -/

/-- A format 2 word (R123). -/
def fmt2 (a : Bool) (cond : BitVec 4) (op2 : BitVec 3) (low : BitVec 22) : IWord :=
  (0#2 ++ BitVec.ofBool a ++ cond ++ op2 ++ low : BitVec 32)

/-- Bits 21:0 of BPcc and FBPfcc: cc1 cc0, p, disp19 (R123). -/
def low22Bp (cc : BitVec 2) (p : Bool) (disp19 : BitVec 19) : BitVec 22 :=
  (cc ++ BitVec.ofBool p ++ disp19 : BitVec 22)

/-- Bits 21:0 of BPr: d16hi, p, rs1, d16lo (R123). -/
def low22Bpr (p : Bool) (rs1 : Reg) (d16 : BitVec 16) : BitVec 22 :=
  (d16.extractLsb' 14 2 ++ BitVec.ofBool p ++ rs1 ++ d16.extractLsb' 0 14 : BitVec 22)

/-- A format 3 or 4 word (R124, R125). -/
def fmt3 (op : BitVec 2) (rd : Reg) (op3 : BitVec 6) (rs1 : Reg) (low : BitVec 14) : IWord :=
  (op ++ rd ++ op3 ++ rs1 ++ low : BitVec 32)

/-- Bits 13:0 of forms (a) and (b). -/
def Operand2.bits : Operand2 → BitVec 14
  | .reg rs2 => (0#9 ++ rs2 : BitVec 14)
  | .imm simm13 => (1#1 ++ simm13 : BitVec 14)

/-- Bits 13:0 of forms (c) and (b) of the alternate-space loads and stores. -/
def AltOperand.bits : AltOperand → BitVec 14
  | .immAsi asi rs2 => (0#1 ++ asi ++ rs2 : BitVec 14)
  | .asiReg simm13 => (1#1 ++ simm13 : BitVec 14)

/-- Bits 13:0 of forms (c) and (d) of CASA and CASXA. -/
def CasAsi.bits (asi : CasAsi) (rs2 : Reg) : BitVec 14 :=
  match asi with
  | .immAsi v => (0#1 ++ v ++ rs2 : BitVec 14)
  | .asiReg => (1#1 ++ 0#8 ++ rs2 : BitVec 14)

/-- Bits 13:0 of forms (e) and (f) of MOVr. -/
def MovrOperand.bits (c : RCond) : MovrOperand → BitVec 14
  | .reg rs2 => (0#1 ++ c.toBits ++ 0#5 ++ rs2 : BitVec 14)
  | .imm simm10 => (1#1 ++ c.toBits ++ simm10 : BitVec 14)

/-- FMOVcc: bit 18 zero, cond, opf_cc, opf_low, rs2 (R125, R201). -/
def encFmovcc (size : FpSize) (opfcc : BitVec 3) (cond : BitVec 4) (rd rs2 : Reg) : IWord :=
  fmt3 2 rd 0x35 (0#1 ++ cond : BitVec 5) (opfcc ++ 0#4 ++ size.toBits ++ rs2 : BitVec 14)

/-- opf_cc of an integer selector: 100 icc, 110 xcc (R134). -/
def CcSel.opfcc : CcSel → BitVec 3
  | .icc => 4
  | .xcc => 6

/-- cc1 cc0 of BPcc: 00 icc, 10 xcc (R134). -/
def CcSel.toBits : CcSel → BitVec 2
  | .icc => 0
  | .xcc => 2

/-- FMOVr: bit 13 zero, rcond, opf_low, rs2 (R124 form (i), R202). -/
def encFmovr (size : FpSize) (c : RCond) (rd rs1 rs2 : Reg) : IWord :=
  fmt3 2 rd 0x35 rs1 (0#1 ++ c.toBits ++ 1#3 ++ size.toBits ++ rs2 : BitVec 14)

/-- The word of an instruction, from the encoding tables R123 to R134. -/
def encode : Instr → IWord
  | .bn a disp22 => fmt2 a (ICond.toBits .n) 2 disp22
  | .be a disp22 => fmt2 a (ICond.toBits .e) 2 disp22
  | .ble a disp22 => fmt2 a (ICond.toBits .le) 2 disp22
  | .bl a disp22 => fmt2 a (ICond.toBits .l) 2 disp22
  | .bleu a disp22 => fmt2 a (ICond.toBits .leu) 2 disp22
  | .bcs a disp22 => fmt2 a (ICond.toBits .cs) 2 disp22
  | .bneg a disp22 => fmt2 a (ICond.toBits .neg) 2 disp22
  | .bvs a disp22 => fmt2 a (ICond.toBits .vs) 2 disp22
  | .ba a disp22 => fmt2 a (ICond.toBits .a) 2 disp22
  | .bne a disp22 => fmt2 a (ICond.toBits .ne) 2 disp22
  | .bg a disp22 => fmt2 a (ICond.toBits .g) 2 disp22
  | .bge a disp22 => fmt2 a (ICond.toBits .ge) 2 disp22
  | .bgu a disp22 => fmt2 a (ICond.toBits .gu) 2 disp22
  | .bcc a disp22 => fmt2 a (ICond.toBits .cc) 2 disp22
  | .bpos a disp22 => fmt2 a (ICond.toBits .pos) 2 disp22
  | .bvc a disp22 => fmt2 a (ICond.toBits .vc) 2 disp22
  | .bpn a cc p disp19 => fmt2 a (ICond.toBits .n) 1 (low22Bp cc.toBits p disp19)
  | .bpe a cc p disp19 => fmt2 a (ICond.toBits .e) 1 (low22Bp cc.toBits p disp19)
  | .bple a cc p disp19 => fmt2 a (ICond.toBits .le) 1 (low22Bp cc.toBits p disp19)
  | .bpl a cc p disp19 => fmt2 a (ICond.toBits .l) 1 (low22Bp cc.toBits p disp19)
  | .bpleu a cc p disp19 => fmt2 a (ICond.toBits .leu) 1 (low22Bp cc.toBits p disp19)
  | .bpcs a cc p disp19 => fmt2 a (ICond.toBits .cs) 1 (low22Bp cc.toBits p disp19)
  | .bpneg a cc p disp19 => fmt2 a (ICond.toBits .neg) 1 (low22Bp cc.toBits p disp19)
  | .bpvs a cc p disp19 => fmt2 a (ICond.toBits .vs) 1 (low22Bp cc.toBits p disp19)
  | .bpa a cc p disp19 => fmt2 a (ICond.toBits .a) 1 (low22Bp cc.toBits p disp19)
  | .bpne a cc p disp19 => fmt2 a (ICond.toBits .ne) 1 (low22Bp cc.toBits p disp19)
  | .bpg a cc p disp19 => fmt2 a (ICond.toBits .g) 1 (low22Bp cc.toBits p disp19)
  | .bpge a cc p disp19 => fmt2 a (ICond.toBits .ge) 1 (low22Bp cc.toBits p disp19)
  | .bpgu a cc p disp19 => fmt2 a (ICond.toBits .gu) 1 (low22Bp cc.toBits p disp19)
  | .bpcc a cc p disp19 => fmt2 a (ICond.toBits .cc) 1 (low22Bp cc.toBits p disp19)
  | .bppos a cc p disp19 => fmt2 a (ICond.toBits .pos) 1 (low22Bp cc.toBits p disp19)
  | .bpvc a cc p disp19 => fmt2 a (ICond.toBits .vc) 1 (low22Bp cc.toBits p disp19)
  | .brz a p rs1 d16 => fmt2 a (0#1 ++ RCond.toBits .z : BitVec 4) 3 (low22Bpr p rs1 d16)
  | .brlez a p rs1 d16 => fmt2 a (0#1 ++ RCond.toBits .lez : BitVec 4) 3 (low22Bpr p rs1 d16)
  | .brlz a p rs1 d16 => fmt2 a (0#1 ++ RCond.toBits .lz : BitVec 4) 3 (low22Bpr p rs1 d16)
  | .brnz a p rs1 d16 => fmt2 a (0#1 ++ RCond.toBits .nz : BitVec 4) 3 (low22Bpr p rs1 d16)
  | .brgz a p rs1 d16 => fmt2 a (0#1 ++ RCond.toBits .gz : BitVec 4) 3 (low22Bpr p rs1 d16)
  | .brgez a p rs1 d16 => fmt2 a (0#1 ++ RCond.toBits .gez : BitVec 4) 3 (low22Bpr p rs1 d16)
  | .fbn a disp22 => fmt2 a (FCond.toBits .n) 6 disp22
  | .fbne a disp22 => fmt2 a (FCond.toBits .ne) 6 disp22
  | .fblg a disp22 => fmt2 a (FCond.toBits .lg) 6 disp22
  | .fbul a disp22 => fmt2 a (FCond.toBits .ul) 6 disp22
  | .fbl a disp22 => fmt2 a (FCond.toBits .l) 6 disp22
  | .fbug a disp22 => fmt2 a (FCond.toBits .ug) 6 disp22
  | .fbg a disp22 => fmt2 a (FCond.toBits .g) 6 disp22
  | .fbu a disp22 => fmt2 a (FCond.toBits .u) 6 disp22
  | .fba a disp22 => fmt2 a (FCond.toBits .a) 6 disp22
  | .fbe a disp22 => fmt2 a (FCond.toBits .e) 6 disp22
  | .fbue a disp22 => fmt2 a (FCond.toBits .ue) 6 disp22
  | .fbge a disp22 => fmt2 a (FCond.toBits .ge) 6 disp22
  | .fbuge a disp22 => fmt2 a (FCond.toBits .uge) 6 disp22
  | .fble a disp22 => fmt2 a (FCond.toBits .le) 6 disp22
  | .fbule a disp22 => fmt2 a (FCond.toBits .ule) 6 disp22
  | .fbo a disp22 => fmt2 a (FCond.toBits .o) 6 disp22
  | .fbpn a cc p disp19 => fmt2 a (FCond.toBits .n) 5 (low22Bp cc.toBits p disp19)
  | .fbpne a cc p disp19 => fmt2 a (FCond.toBits .ne) 5 (low22Bp cc.toBits p disp19)
  | .fbplg a cc p disp19 => fmt2 a (FCond.toBits .lg) 5 (low22Bp cc.toBits p disp19)
  | .fbpul a cc p disp19 => fmt2 a (FCond.toBits .ul) 5 (low22Bp cc.toBits p disp19)
  | .fbpl a cc p disp19 => fmt2 a (FCond.toBits .l) 5 (low22Bp cc.toBits p disp19)
  | .fbpug a cc p disp19 => fmt2 a (FCond.toBits .ug) 5 (low22Bp cc.toBits p disp19)
  | .fbpg a cc p disp19 => fmt2 a (FCond.toBits .g) 5 (low22Bp cc.toBits p disp19)
  | .fbpu a cc p disp19 => fmt2 a (FCond.toBits .u) 5 (low22Bp cc.toBits p disp19)
  | .fbpa a cc p disp19 => fmt2 a (FCond.toBits .a) 5 (low22Bp cc.toBits p disp19)
  | .fbpe a cc p disp19 => fmt2 a (FCond.toBits .e) 5 (low22Bp cc.toBits p disp19)
  | .fbpue a cc p disp19 => fmt2 a (FCond.toBits .ue) 5 (low22Bp cc.toBits p disp19)
  | .fbpge a cc p disp19 => fmt2 a (FCond.toBits .ge) 5 (low22Bp cc.toBits p disp19)
  | .fbpuge a cc p disp19 => fmt2 a (FCond.toBits .uge) 5 (low22Bp cc.toBits p disp19)
  | .fbple a cc p disp19 => fmt2 a (FCond.toBits .le) 5 (low22Bp cc.toBits p disp19)
  | .fbpule a cc p disp19 => fmt2 a (FCond.toBits .ule) 5 (low22Bp cc.toBits p disp19)
  | .fbpo a cc p disp19 => fmt2 a (FCond.toBits .o) 5 (low22Bp cc.toBits p disp19)
  | .nop => fmt2 false 0 4 0
  | .casa rd rs1 asi rs2 => fmt3 3 rd 0x3C rs1 (asi.bits rs2)
  | .casxa rd rs1 asi rs2 => fmt3 3 rd 0x3E rs1 (asi.bits rs2)
  | .swap rd rs1 op2 => fmt3 3 rd 0x0F rs1 op2.bits
  | .fmovscc_fcc0 cond rd rs2 => encFmovcc .single (0#1 ++ FccSel.toBits .fcc0 : BitVec 3) cond.toBits rd rs2
  | .fmovscc_fcc1 cond rd rs2 => encFmovcc .single (0#1 ++ FccSel.toBits .fcc1 : BitVec 3) cond.toBits rd rs2
  | .fmovscc_fcc2 cond rd rs2 => encFmovcc .single (0#1 ++ FccSel.toBits .fcc2 : BitVec 3) cond.toBits rd rs2
  | .fmovscc_fcc3 cond rd rs2 => encFmovcc .single (0#1 ++ FccSel.toBits .fcc3 : BitVec 3) cond.toBits rd rs2
  | .fmovscc_icc cond rd rs2 => encFmovcc .single (CcSel.opfcc .icc) cond.toBits rd rs2
  | .fmovscc_xcc cond rd rs2 => encFmovcc .single (CcSel.opfcc .xcc) cond.toBits rd rs2
  | .fmovdcc_fcc0 cond rd rs2 => encFmovcc .double (0#1 ++ FccSel.toBits .fcc0 : BitVec 3) cond.toBits rd rs2
  | .fmovdcc_fcc1 cond rd rs2 => encFmovcc .double (0#1 ++ FccSel.toBits .fcc1 : BitVec 3) cond.toBits rd rs2
  | .fmovdcc_fcc2 cond rd rs2 => encFmovcc .double (0#1 ++ FccSel.toBits .fcc2 : BitVec 3) cond.toBits rd rs2
  | .fmovdcc_fcc3 cond rd rs2 => encFmovcc .double (0#1 ++ FccSel.toBits .fcc3 : BitVec 3) cond.toBits rd rs2
  | .fmovdcc_icc cond rd rs2 => encFmovcc .double (CcSel.opfcc .icc) cond.toBits rd rs2
  | .fmovdcc_xcc cond rd rs2 => encFmovcc .double (CcSel.opfcc .xcc) cond.toBits rd rs2
  | .fmovqcc_fcc0 cond rd rs2 => encFmovcc .quad (0#1 ++ FccSel.toBits .fcc0 : BitVec 3) cond.toBits rd rs2
  | .fmovqcc_fcc1 cond rd rs2 => encFmovcc .quad (0#1 ++ FccSel.toBits .fcc1 : BitVec 3) cond.toBits rd rs2
  | .fmovqcc_fcc2 cond rd rs2 => encFmovcc .quad (0#1 ++ FccSel.toBits .fcc2 : BitVec 3) cond.toBits rd rs2
  | .fmovqcc_fcc3 cond rd rs2 => encFmovcc .quad (0#1 ++ FccSel.toBits .fcc3 : BitVec 3) cond.toBits rd rs2
  | .fmovqcc_icc cond rd rs2 => encFmovcc .quad (CcSel.opfcc .icc) cond.toBits rd rs2
  | .fmovqcc_xcc cond rd rs2 => encFmovcc .quad (CcSel.opfcc .xcc) cond.toBits rd rs2
  | .fmovrsz rd rs1 rs2 => encFmovr .single .z rd rs1 rs2
  | .fmovrslez rd rs1 rs2 => encFmovr .single .lez rd rs1 rs2
  | .fmovrslz rd rs1 rs2 => encFmovr .single .lz rd rs1 rs2
  | .fmovrsnz rd rs1 rs2 => encFmovr .single .nz rd rs1 rs2
  | .fmovrsgz rd rs1 rs2 => encFmovr .single .gz rd rs1 rs2
  | .fmovrsgez rd rs1 rs2 => encFmovr .single .gez rd rs1 rs2
  | .fmovrdz rd rs1 rs2 => encFmovr .double .z rd rs1 rs2
  | .fmovrdlez rd rs1 rs2 => encFmovr .double .lez rd rs1 rs2
  | .fmovrdlz rd rs1 rs2 => encFmovr .double .lz rd rs1 rs2
  | .fmovrdnz rd rs1 rs2 => encFmovr .double .nz rd rs1 rs2
  | .fmovrdgz rd rs1 rs2 => encFmovr .double .gz rd rs1 rs2
  | .fmovrdgez rd rs1 rs2 => encFmovr .double .gez rd rs1 rs2
  | .fmovrqz rd rs1 rs2 => encFmovr .quad .z rd rs1 rs2
  | .fmovrqlez rd rs1 rs2 => encFmovr .quad .lez rd rs1 rs2
  | .fmovrqlz rd rs1 rs2 => encFmovr .quad .lz rd rs1 rs2
  | .fmovrqnz rd rs1 rs2 => encFmovr .quad .nz rd rs1 rs2
  | .fmovrqgz rd rs1 rs2 => encFmovr .quad .gz rd rs1 rs2
  | .fmovrqgez rd rs1 rs2 => encFmovr .quad .gez rd rs1 rs2
  | .movrz rd rs1 v => fmt3 2 rd 0x2F rs1 (v.bits .z)
  | .movrlez rd rs1 v => fmt3 2 rd 0x2F rs1 (v.bits .lez)
  | .movrlz rd rs1 v => fmt3 2 rd 0x2F rs1 (v.bits .lz)
  | .movrnz rd rs1 v => fmt3 2 rd 0x2F rs1 (v.bits .nz)
  | .movrgz rd rs1 v => fmt3 2 rd 0x2F rs1 (v.bits .gz)
  | .movrgez rd rs1 v => fmt3 2 rd 0x2F rs1 (v.bits .gez)
  | .ldf rd rs1 op2 => fmt3 3 rd 0x20 rs1 op2.bits
  | .lddf rd rs1 op2 => fmt3 3 rd 0x23 rs1 op2.bits
  | .ldqf rd rs1 op2 => fmt3 3 rd 0x22 rs1 op2.bits
  | .ldfsr rs1 op2 => fmt3 3 0 0x21 rs1 op2.bits
  | .ldxfsr rs1 op2 => fmt3 3 1 0x21 rs1 op2.bits
  | .ldd rd rs1 op2 => fmt3 3 rd 0x03 rs1 op2.bits
  | .ldda rd rs1 alt => fmt3 3 rd 0x13 rs1 alt.bits
  | .stb rd rs1 op2 => fmt3 3 rd 0x05 rs1 op2.bits
  | .sth rd rs1 op2 => fmt3 3 rd 0x06 rs1 op2.bits
  | .stw rd rs1 op2 => fmt3 3 rd 0x04 rs1 op2.bits
  | .stx rd rs1 op2 => fmt3 3 rd 0x0E rs1 op2.bits
  | .std rd rs1 op2 => fmt3 3 rd 0x07 rs1 op2.bits
  | .stba rd rs1 alt => fmt3 3 rd 0x15 rs1 alt.bits
  | .stha rd rs1 alt => fmt3 3 rd 0x16 rs1 alt.bits
  | .stwa rd rs1 alt => fmt3 3 rd 0x14 rs1 alt.bits
  | .stxa rd rs1 alt => fmt3 3 rd 0x1E rs1 alt.bits
  | .stda rd rs1 alt => fmt3 3 rd 0x17 rs1 alt.bits
  | .rdy rd => fmt3 2 rd 0x28 0 0
  | .rdccr rd => fmt3 2 rd 0x28 2 0
  | .rdasi rd => fmt3 2 rd 0x28 3 0
  | .rdtick rd => fmt3 2 rd 0x28 4 0
  | .rdpc rd => fmt3 2 rd 0x28 5 0
  | .rdfprs rd => fmt3 2 rd 0x28 6 0
  | .rdasr16_31 rd rs1 => fmt3 2 rd 0x28 rs1 0
  | .wry rs1 op2 => fmt3 2 0 0x30 rs1 op2.bits
  | .wrccr rs1 op2 => fmt3 2 2 0x30 rs1 op2.bits
  | .wrasi rs1 op2 => fmt3 2 3 0x30 rs1 op2.bits
  | .wrfprs rs1 op2 => fmt3 2 6 0x30 rs1 op2.bits
  | .wrasr16_31 rd rs1 op2 => fmt3 2 rd 0x30 rs1 op2.bits
  | .sir simm13 => fmt3 2 15 0x30 0 (1#1 ++ simm13 : BitVec 14)
  | .rdpr rd rs1 => fmt3 2 rd 0x2A rs1 0
  | .wrpr rd rs1 op2 => fmt3 2 rd 0x32 rs1 op2.bits
  | .save rd rs1 op2 => fmt3 2 rd 0x3C rs1 op2.bits
  | .restore rd rs1 op2 => fmt3 2 rd 0x3D rs1 op2.bits
  | .saved => fmt3 2 0 0x31 0 0
  | .restored => fmt3 2 1 0x31 0 0
  | .taddcc rd rs1 op2 => fmt3 2 rd 0x20 rs1 op2.bits
  | .taddcctv rd rs1 op2 => fmt3 2 rd 0x22 rs1 op2.bits

end Sys2Proof
end

