-- ==== Sys2Proof/Machine/Fetch.lean ====
section
/-! DEFINITION. Fetching an instruction word, and what a word that is no instruction does
(spec/20_memory.md R86; 30_encoding.md R135, R136; 92_eei_decisions.md D1, D19, D20). -/

namespace Sys2Proof.Machine

/-- The instruction word at an address, big-endian whatever PSTATE.CLE holds, the address masked by
PSTATE.AM (20_memory.md R86; 10_state.md R26). -/
def State.wordAt (s : State) (a : Word) : IWord :=
  let n := (s.maskAddr a).toNat
  iwordOfBytes (readByte s.mem n) (readByte s.mem (n + 1)) (readByte s.mem (n + 2))
    (readByte s.mem (n + 3))

/-- The four bytes of a word at an address are program text (92_eei_decisions.md D19, D20). -/
def State.inText (s : State) (a : Word) : Bool :=
  allInRanges s.launch.text (s.maskAddr a).toNat 4

/-- The four bytes of a word at an address exist in the launch memory (D12). -/
def State.codeExists (s : State) (a : Word) : Bool :=
  allInRanges s.launch.extent (s.maskAddr a).toNat 4

/-- Why the word at the PC cannot be fetched, if it cannot: error_state (60_exceptions.md R375), the
end of the program or a PC outside the program text (D19, D20; 70_reset_and_hazards.md R431), no
memory (D12). -/
def fetchFault (s : State) : Option Fault :=
  if s.errorState then some .stuckInErrorState
  else if !s.inText s.pc then
    (if s.launch.exit = some (s.maskAddr s.pc) then some (.programEnd s.pc)
    else some (.fetchOutsideText s.pc))
  else if !s.codeExists s.pc then some (.noMemoryAtAddress s.pc)
  else none

/-- What the machine does with a word that is no instruction of the model: the exception the spec
names, or a refusal by name. A floating-point word with a reserved selector raises fp_disabled first
(42_fp_move_and_fsr.md R201, R202). At TL = 0 the registers of the trap stack are illegal, which wins
over nonzero reserved bits (30_encoding.md R136, D28, log 14). -/
def execStop (d : DecodeStop) (s : State) : Res :=
  match d with
  | .illegal => raise .illegalInstruction s
  | .illegalPrivileged => raiseFirst s [(!s.priv, .privilegedOpcode)] (raise .illegalInstruction s)
  | .reservedFmovSelector =>
    raiseFirst s [(!s.fpEnabled, .fpDisabled)] (.refused .reservedFmovSelector)
  | .reservedFmovCondition =>
    raiseFirst s [(!s.fpEnabled, .fpDisabled)] (.refused .reservedFmovCondition)
  | .reservedBits => .refused .reservedInstructionBits
  | .trapRegisterReservedBits =>
    if s.tl = 0 then raiseFirst s [(!s.priv, .privilegedOpcode)] (raise .illegalInstruction s)
    else .refused .reservedInstructionBits
  | .outOfScope name => .refused (.outOfScope name)
  | .unlistedOpcode op op3 => .refused (.unlistedOpcode op op3)
  | .tooShort => .fault (.noMemoryAtAddress s.pc)

/-- Memory with an instruction word stored where fetch reads it (20_memory.md R86). -/
def writeIWord (m : Memory) (a : Nat) (w : IWord) : Memory := writeBytes m a (iwordBytes w)

end Sys2Proof.Machine
end

