-- ==== Sys2Proof/Machine/Flags.lean ====
section
/-! DEFINITION. Condition tests and condition-code computations (spec/30_encoding.md R134;
48_tagged_add.md R351). -/

namespace Sys2Proof.Machine

/-- The integer condition test on N Z V C (30_encoding.md R134). -/
def icondTest (c : ICond) (x : Nzvc) : Bool :=
  match c with
  | .a => true
  | .n => false
  | .ne => !x.z
  | .e => x.z
  | .g => !(x.z || (x.n ^^ x.v))
  | .le => x.z || (x.n ^^ x.v)
  | .ge => !(x.n ^^ x.v)
  | .l => x.n ^^ x.v
  | .gu => !(x.c || x.z)
  | .leu => x.c || x.z
  | .cc => !x.c
  | .cs => x.c
  | .pos => !x.n
  | .neg => x.n
  | .vc => !x.v
  | .vs => x.v

/-- The four relations an fcc value names: E = 0, L = 1, G = 2, U = 3 (30_encoding.md R134). -/
inductive Relation where
  | equal | less | greater | unordered
  deriving DecidableEq, Repr

/-- The relation of an fcc value (10_state.md R35). -/
def fccRelation (fcc : BitVec 2) : Relation :=
  match fcc.toNat with
  | 0 => .equal
  | 1 => .less
  | 2 => .greater
  | _ => .unordered

/-- The relations for which a floating-point condition is true (30_encoding.md R134). -/
def fcondRelations : FCond → List Relation
  | .a => [.equal, .less, .greater, .unordered]
  | .n => []
  | .u => [.unordered]
  | .g => [.greater]
  | .ug => [.greater, .unordered]
  | .l => [.less]
  | .ul => [.less, .unordered]
  | .lg => [.less, .greater]
  | .ne => [.less, .greater, .unordered]
  | .e => [.equal]
  | .ue => [.equal, .unordered]
  | .ge => [.equal, .greater]
  | .uge => [.equal, .greater, .unordered]
  | .le => [.equal, .less]
  | .ule => [.equal, .less, .unordered]
  | .o => [.equal, .less, .greater]

/-- The floating-point condition test on an fcc value (30_encoding.md R134). -/
def fcondTest (c : FCond) (fcc : BitVec 2) : Bool := (fcondRelations c).contains (fccRelation fcc)

/-- The register condition test on the signed 64-bit value (30_encoding.md R134). -/
def rcondTest (c : RCond) (v : Word) : Bool :=
  match c with
  | .z => decide (v.toInt = 0)
  | .lez => decide (v.toInt ≤ 0)
  | .lz => decide (v.toInt < 0)
  | .nz => decide (v.toInt ≠ 0)
  | .gz => decide (v.toInt > 0)
  | .gez => decide (v.toInt ≥ 0)

/-- The selected integer condition codes (30_encoding.md R134). -/
def State.ccSel (s : State) : CcSel → Nzvc
  | .icc => ccrIcc s.ccr
  | .xcc => ccrXcc s.ccr

/-- Signed overflow of an addition at bit k: the operands' signs agree and the sum's differs
(48_tagged_add.md R351). -/
def addOverflow (k : Nat) (a b sum : Word) : Bool :=
  (a.getLsbD k == b.getLsbD k) && (sum.getLsbD k != a.getLsbD k)

/-- The carry out of bit k of an addition (48_tagged_add.md R351). -/
def addCarry (k : Nat) (a b sum : Word) : Bool :=
  (a.getLsbD k && b.getLsbD k) || (!sum.getLsbD k && (a.getLsbD k || b.getLsbD k))

/-- The tag overflow of a tagged addition: a nonzero tag, or 32-bit signed overflow
(48_tagged_add.md R351). -/
def tagOverflow (a b : Word) : Bool :=
  decide (a.extractLsb' 0 2 ≠ 0) || decide (b.extractLsb' 0 2 ≠ 0) || addOverflow 31 a b (a + b)

/-- xcc of an addition (48_tagged_add.md R351). -/
def addXcc (a b : Word) : Nzvc where
  n := (a + b).getLsbD 63
  z := decide (a + b = 0)
  v := addOverflow 63 a b (a + b)
  c := addCarry 63 a b (a + b)

/-- icc of a tagged addition with the given V (48_tagged_add.md R351 to R353). -/
def taggedIcc (a b : Word) (v : Bool) : Nzvc where
  n := (a + b).getLsbD 31
  z := decide ((a + b).extractLsb' 0 32 = 0)
  v := v
  c := addCarry 31 a b (a + b)

end Sys2Proof.Machine
end

