-- ==== Sys2Proof/Machine/Branches.lean ====
section
/-! DEFINITION. Branches and annulment: Bicc, BPcc, BPr, FBfcc, FBPfcc (spec/40_branches.md). -/

namespace Sys2Proof.Machine

/-- The three cases of R160 and R161: "conditional" means that cond is neither always nor never. -/
inductive BranchKind where
  | conditional | always | never
  deriving DecidableEq, Repr

/-- The kind of an integer condition (R161). -/
def icondKind : ICond → BranchKind
  | .a => .always
  | .n => .never
  | .e | .le | .l | .leu | .cs | .neg | .vs | .ne | .g | .ge | .gu | .cc | .pos | .vc => .conditional

/-- The kind of a floating-point condition (R161). -/
def fcondKind : FCond → BranchKind
  | .a => .always
  | .n => .never
  | .ne | .lg | .ul | .l | .ug | .g | .u | .e | .ue | .ge | .uge | .le | .ule | .o => .conditional

/-- The new (pc, npc) of a branch: the table of R161, T the target. -/
def branchPcs (kind : BranchKind) (annul taken : Bool) (npc T : Word) : Word × Word :=
  match kind, annul, taken with
  | .conditional, false, true => (npc, T)
  | .conditional, false, false => (npc, npc + 4)
  | .conditional, true, true => (npc, T)
  | .conditional, true, false => (npc + 4, npc + 8)
  | .always, false, _ => (npc, T)
  | .always, true, _ => (T, T + 4)
  | .never, false, _ => (npc, npc + 4)
  | .never, true, _ => (npc + 4, npc + 8)

/-- The target of a branch, pc + 4 * sext(disp), masked by PSTATE.AM (30_encoding.md R127; R163). -/
def State.branchTarget (s : State) {w : Nat} (disp : BitVec w) : Word :=
  s.maskAddr (s.pc + 4 * disp.signExtend 64)

/-- The instruction at nPC is itself a branch (R162). -/
def State.branchInDelaySlot (s : State) : Bool := s.inText s.npc && isBranchWord (s.wordAt s.npc)

/-- A branch: refused when its delay slot holds a branch (R162), else the table of R161. -/
def branch (s : State) (kind : BranchKind) (annul taken : Bool) (T : Word) : Res :=
  if s.branchInDelaySlot then .refused .branchInDelaySlot
  else
    .next (s.setPcs (branchPcs kind annul taken s.npc T).1 (branchPcs kind annul taken s.npc T).2)

/-- Bicc: test on icc (R163). -/
def bicc (c : ICond) (a : Bool) (disp22 : BitVec 22) (s : State) : Res :=
  branch s (icondKind c) a (icondTest c (ccrIcc s.ccr)) (s.branchTarget disp22)

/-- BPcc: test on icc or xcc; the prediction bit has no effect (R164). -/
def bpcc (c : ICond) (a : Bool) (cc : CcSel) (disp19 : BitVec 19) (s : State) : Res :=
  branch s (icondKind c) a (icondTest c (s.ccSel cc)) (s.branchTarget disp19)

/-- BPr: test on all 64 bits of x[rs1]; always conditional (R165). -/
def bpr (c : RCond) (a : Bool) (rs1 : Reg) (d16 : BitVec 16) (s : State) : Res :=
  branch s .conditional a (rcondTest c (s.readReg rs1)) (s.branchTarget d16)

/-- FBfcc: test on fcc0 (R166). -/
def fbfcc (c : FCond) (a : Bool) (disp22 : BitVec 22) (s : State) : Res :=
  raiseFirst s s.fpCheck
    (branch s (fcondKind c) a (fcondTest c (fsrFcc s.fsr .fcc0)) (s.branchTarget disp22))

/-- FBPfcc: test on fcc0, fcc1, fcc2 or fcc3; the prediction bit has no effect (R167). -/
def fbpfcc (c : FCond) (a : Bool) (cc : FccSel) (disp19 : BitVec 19) (s : State) : Res :=
  raiseFirst s s.fpCheck
    (branch s (fcondKind c) a (fcondTest c (fsrFcc s.fsr cc)) (s.branchTarget disp19))

/-- BN (R163). -/
def execBn (a : Bool) (disp22 : BitVec 22) (s : State) : Res :=
  bicc .n a disp22 s

/-- BE (R163). -/
def execBe (a : Bool) (disp22 : BitVec 22) (s : State) : Res :=
  bicc .e a disp22 s

/-- BLE (R163). -/
def execBle (a : Bool) (disp22 : BitVec 22) (s : State) : Res :=
  bicc .le a disp22 s

/-- BL (R163). -/
def execBl (a : Bool) (disp22 : BitVec 22) (s : State) : Res :=
  bicc .l a disp22 s

/-- BLEU (R163). -/
def execBleu (a : Bool) (disp22 : BitVec 22) (s : State) : Res :=
  bicc .leu a disp22 s

/-- BCS (R163). -/
def execBcs (a : Bool) (disp22 : BitVec 22) (s : State) : Res :=
  bicc .cs a disp22 s

/-- BNEG (R163). -/
def execBneg (a : Bool) (disp22 : BitVec 22) (s : State) : Res :=
  bicc .neg a disp22 s

/-- BVS (R163). -/
def execBvs (a : Bool) (disp22 : BitVec 22) (s : State) : Res :=
  bicc .vs a disp22 s

/-- BA (R163). -/
def execBa (a : Bool) (disp22 : BitVec 22) (s : State) : Res :=
  bicc .a a disp22 s

/-- BNE (R163). -/
def execBne (a : Bool) (disp22 : BitVec 22) (s : State) : Res :=
  bicc .ne a disp22 s

/-- BG (R163). -/
def execBg (a : Bool) (disp22 : BitVec 22) (s : State) : Res :=
  bicc .g a disp22 s

/-- BGE (R163). -/
def execBge (a : Bool) (disp22 : BitVec 22) (s : State) : Res :=
  bicc .ge a disp22 s

/-- BGU (R163). -/
def execBgu (a : Bool) (disp22 : BitVec 22) (s : State) : Res :=
  bicc .gu a disp22 s

/-- BCC (R163). -/
def execBcc (a : Bool) (disp22 : BitVec 22) (s : State) : Res :=
  bicc .cc a disp22 s

/-- BPOS (R163). -/
def execBpos (a : Bool) (disp22 : BitVec 22) (s : State) : Res :=
  bicc .pos a disp22 s

/-- BVC (R163). -/
def execBvc (a : Bool) (disp22 : BitVec 22) (s : State) : Res :=
  bicc .vc a disp22 s

/-- BPN (R164). -/
def execBpn (a : Bool) (cc : CcSel) (_p : Bool) (disp19 : BitVec 19) (s : State) : Res :=
  bpcc .n a cc disp19 s

/-- BPE (R164). -/
def execBpe (a : Bool) (cc : CcSel) (_p : Bool) (disp19 : BitVec 19) (s : State) : Res :=
  bpcc .e a cc disp19 s

/-- BPLE (R164). -/
def execBple (a : Bool) (cc : CcSel) (_p : Bool) (disp19 : BitVec 19) (s : State) : Res :=
  bpcc .le a cc disp19 s

/-- BPL (R164). -/
def execBpl (a : Bool) (cc : CcSel) (_p : Bool) (disp19 : BitVec 19) (s : State) : Res :=
  bpcc .l a cc disp19 s

/-- BPLEU (R164). -/
def execBpleu (a : Bool) (cc : CcSel) (_p : Bool) (disp19 : BitVec 19) (s : State) : Res :=
  bpcc .leu a cc disp19 s

/-- BPCS (R164). -/
def execBpcs (a : Bool) (cc : CcSel) (_p : Bool) (disp19 : BitVec 19) (s : State) : Res :=
  bpcc .cs a cc disp19 s

/-- BPNEG (R164). -/
def execBpneg (a : Bool) (cc : CcSel) (_p : Bool) (disp19 : BitVec 19) (s : State) : Res :=
  bpcc .neg a cc disp19 s

/-- BPVS (R164). -/
def execBpvs (a : Bool) (cc : CcSel) (_p : Bool) (disp19 : BitVec 19) (s : State) : Res :=
  bpcc .vs a cc disp19 s

/-- BPA (R164). -/
def execBpa (a : Bool) (cc : CcSel) (_p : Bool) (disp19 : BitVec 19) (s : State) : Res :=
  bpcc .a a cc disp19 s

/-- BPNE (R164). -/
def execBpne (a : Bool) (cc : CcSel) (_p : Bool) (disp19 : BitVec 19) (s : State) : Res :=
  bpcc .ne a cc disp19 s

/-- BPG (R164). -/
def execBpg (a : Bool) (cc : CcSel) (_p : Bool) (disp19 : BitVec 19) (s : State) : Res :=
  bpcc .g a cc disp19 s

/-- BPGE (R164). -/
def execBpge (a : Bool) (cc : CcSel) (_p : Bool) (disp19 : BitVec 19) (s : State) : Res :=
  bpcc .ge a cc disp19 s

/-- BPGU (R164). -/
def execBpgu (a : Bool) (cc : CcSel) (_p : Bool) (disp19 : BitVec 19) (s : State) : Res :=
  bpcc .gu a cc disp19 s

/-- BPCC (R164). -/
def execBpcc (a : Bool) (cc : CcSel) (_p : Bool) (disp19 : BitVec 19) (s : State) : Res :=
  bpcc .cc a cc disp19 s

/-- BPPOS (R164). -/
def execBppos (a : Bool) (cc : CcSel) (_p : Bool) (disp19 : BitVec 19) (s : State) : Res :=
  bpcc .pos a cc disp19 s

/-- BPVC (R164). -/
def execBpvc (a : Bool) (cc : CcSel) (_p : Bool) (disp19 : BitVec 19) (s : State) : Res :=
  bpcc .vc a cc disp19 s

/-- BRZ (R165). -/
def execBrz (a : Bool) (_p : Bool) (rs1 : Reg) (d16 : BitVec 16) (s : State) : Res :=
  bpr .z a rs1 d16 s

/-- BRLEZ (R165). -/
def execBrlez (a : Bool) (_p : Bool) (rs1 : Reg) (d16 : BitVec 16) (s : State) : Res :=
  bpr .lez a rs1 d16 s

/-- BRLZ (R165). -/
def execBrlz (a : Bool) (_p : Bool) (rs1 : Reg) (d16 : BitVec 16) (s : State) : Res :=
  bpr .lz a rs1 d16 s

/-- BRNZ (R165). -/
def execBrnz (a : Bool) (_p : Bool) (rs1 : Reg) (d16 : BitVec 16) (s : State) : Res :=
  bpr .nz a rs1 d16 s

/-- BRGZ (R165). -/
def execBrgz (a : Bool) (_p : Bool) (rs1 : Reg) (d16 : BitVec 16) (s : State) : Res :=
  bpr .gz a rs1 d16 s

/-- BRGEZ (R165). -/
def execBrgez (a : Bool) (_p : Bool) (rs1 : Reg) (d16 : BitVec 16) (s : State) : Res :=
  bpr .gez a rs1 d16 s

/-- FBN (R166). -/
def execFbn (a : Bool) (disp22 : BitVec 22) (s : State) : Res :=
  fbfcc .n a disp22 s

/-- FBNE (R166). -/
def execFbne (a : Bool) (disp22 : BitVec 22) (s : State) : Res :=
  fbfcc .ne a disp22 s

/-- FBLG (R166). -/
def execFblg (a : Bool) (disp22 : BitVec 22) (s : State) : Res :=
  fbfcc .lg a disp22 s

/-- FBUL (R166). -/
def execFbul (a : Bool) (disp22 : BitVec 22) (s : State) : Res :=
  fbfcc .ul a disp22 s

/-- FBL (R166). -/
def execFbl (a : Bool) (disp22 : BitVec 22) (s : State) : Res :=
  fbfcc .l a disp22 s

/-- FBUG (R166). -/
def execFbug (a : Bool) (disp22 : BitVec 22) (s : State) : Res :=
  fbfcc .ug a disp22 s

/-- FBG (R166). -/
def execFbg (a : Bool) (disp22 : BitVec 22) (s : State) : Res :=
  fbfcc .g a disp22 s

/-- FBU (R166). -/
def execFbu (a : Bool) (disp22 : BitVec 22) (s : State) : Res :=
  fbfcc .u a disp22 s

/-- FBA (R166). -/
def execFba (a : Bool) (disp22 : BitVec 22) (s : State) : Res :=
  fbfcc .a a disp22 s

/-- FBE (R166). -/
def execFbe (a : Bool) (disp22 : BitVec 22) (s : State) : Res :=
  fbfcc .e a disp22 s

/-- FBUE (R166). -/
def execFbue (a : Bool) (disp22 : BitVec 22) (s : State) : Res :=
  fbfcc .ue a disp22 s

/-- FBGE (R166). -/
def execFbge (a : Bool) (disp22 : BitVec 22) (s : State) : Res :=
  fbfcc .ge a disp22 s

/-- FBUGE (R166). -/
def execFbuge (a : Bool) (disp22 : BitVec 22) (s : State) : Res :=
  fbfcc .uge a disp22 s

/-- FBLE (R166). -/
def execFble (a : Bool) (disp22 : BitVec 22) (s : State) : Res :=
  fbfcc .le a disp22 s

/-- FBULE (R166). -/
def execFbule (a : Bool) (disp22 : BitVec 22) (s : State) : Res :=
  fbfcc .ule a disp22 s

/-- FBO (R166). -/
def execFbo (a : Bool) (disp22 : BitVec 22) (s : State) : Res :=
  fbfcc .o a disp22 s

/-- FBPN (R167). -/
def execFbpn (a : Bool) (cc : FccSel) (_p : Bool) (disp19 : BitVec 19) (s : State) : Res :=
  fbpfcc .n a cc disp19 s

/-- FBPNE (R167). -/
def execFbpne (a : Bool) (cc : FccSel) (_p : Bool) (disp19 : BitVec 19) (s : State) : Res :=
  fbpfcc .ne a cc disp19 s

/-- FBPLG (R167). -/
def execFbplg (a : Bool) (cc : FccSel) (_p : Bool) (disp19 : BitVec 19) (s : State) : Res :=
  fbpfcc .lg a cc disp19 s

/-- FBPUL (R167). -/
def execFbpul (a : Bool) (cc : FccSel) (_p : Bool) (disp19 : BitVec 19) (s : State) : Res :=
  fbpfcc .ul a cc disp19 s

/-- FBPL (R167). -/
def execFbpl (a : Bool) (cc : FccSel) (_p : Bool) (disp19 : BitVec 19) (s : State) : Res :=
  fbpfcc .l a cc disp19 s

/-- FBPUG (R167). -/
def execFbpug (a : Bool) (cc : FccSel) (_p : Bool) (disp19 : BitVec 19) (s : State) : Res :=
  fbpfcc .ug a cc disp19 s

/-- FBPG (R167). -/
def execFbpg (a : Bool) (cc : FccSel) (_p : Bool) (disp19 : BitVec 19) (s : State) : Res :=
  fbpfcc .g a cc disp19 s

/-- FBPU (R167). -/
def execFbpu (a : Bool) (cc : FccSel) (_p : Bool) (disp19 : BitVec 19) (s : State) : Res :=
  fbpfcc .u a cc disp19 s

/-- FBPA (R167). -/
def execFbpa (a : Bool) (cc : FccSel) (_p : Bool) (disp19 : BitVec 19) (s : State) : Res :=
  fbpfcc .a a cc disp19 s

/-- FBPE (R167). -/
def execFbpe (a : Bool) (cc : FccSel) (_p : Bool) (disp19 : BitVec 19) (s : State) : Res :=
  fbpfcc .e a cc disp19 s

/-- FBPUE (R167). -/
def execFbpue (a : Bool) (cc : FccSel) (_p : Bool) (disp19 : BitVec 19) (s : State) : Res :=
  fbpfcc .ue a cc disp19 s

/-- FBPGE (R167). -/
def execFbpge (a : Bool) (cc : FccSel) (_p : Bool) (disp19 : BitVec 19) (s : State) : Res :=
  fbpfcc .ge a cc disp19 s

/-- FBPUGE (R167). -/
def execFbpuge (a : Bool) (cc : FccSel) (_p : Bool) (disp19 : BitVec 19) (s : State) : Res :=
  fbpfcc .uge a cc disp19 s

/-- FBPLE (R167). -/
def execFbple (a : Bool) (cc : FccSel) (_p : Bool) (disp19 : BitVec 19) (s : State) : Res :=
  fbpfcc .le a cc disp19 s

/-- FBPULE (R167). -/
def execFbpule (a : Bool) (cc : FccSel) (_p : Bool) (disp19 : BitVec 19) (s : State) : Res :=
  fbpfcc .ule a cc disp19 s

/-- FBPO (R167). -/
def execFbpo (a : Bool) (cc : FccSel) (_p : Bool) (disp19 : BitVec 19) (s : State) : Res :=
  fbpfcc .o a cc disp19 s

end Sys2Proof.Machine
end

