-- ==== Sys2Proof/Machine/FpMoves.lean ====
section
/-! DEFINITION. Floating-point conditional moves: FMOVScc, FMOVDcc, FMOVQcc, FMOVRS, FMOVRD, FMOVRQ
(spec/42_fp_move_and_fsr.md sections 1 and 2). -/

namespace Sys2Proof.Machine

/-- A quad move whose rd or rs2 field names no register raises fp_exception_other with ftt 6 (R201,
R202). -/
def quadMoveCheck (size : FpSize) (rd rs2 : Reg) : List (Bool × Exc) :=
  [(decide (size = .quad) && (quadFieldInvalid rd || quadFieldInvalid rs2), .fpExceptionOther 6)]

/-- FSR.cexc and FSR.ftt cleared (R204). -/
def State.clearCexcFtt (s : State) : State := { s with fsr := fsrPutFtt (fsrPutCexc s.fsr 0) 0 }

/-- The bit copy f[rd] <- f[rs2] and the FPRS dirty bit of the destination (R201). -/
def State.copyF (s : State) (size : FpSize) (rd rs2 : Reg) : State :=
  match size with
  | .single => (s.setF32 (singleReg rd) (s.f32 (singleReg rs2))).markDirty (singleReg rd)
  | .double => (s.setF64 (doubleReg rd) (s.f64 (doubleReg rs2))).markDirty (doubleReg rd)
  | .quad => (s.setF128 (doubleReg rd) (s.f128 (doubleReg rs2))).markDirty (doubleReg rd)

/-- A floating-point conditional move: cexc and ftt are cleared whether or not it moves (R201, R202,
R204). -/
def fmov (size : FpSize) (moves : Bool) (rd rs2 : Reg) (s : State) : Res :=
  raiseFirst s (s.fpCheck ++ quadMoveCheck size rd rs2)
    (.next (if moves then (s.clearCexcFtt.copyF size rd rs2).advance else s.clearCexcFtt.advance))

/-- FMOVcc on fcc0..fcc3 (R201). -/
def fmovFcc (size : FpSize) (cc : FccSel) (c : FCond) (rd rs2 : Reg) (s : State) : Res :=
  fmov size (fcondTest c (fsrFcc s.fsr cc)) rd rs2 s

/-- FMOVcc on icc or xcc (R201). -/
def fmovIcc (size : FpSize) (cc : CcSel) (c : ICond) (rd rs2 : Reg) (s : State) : Res :=
  fmov size (icondTest c (s.ccSel cc)) rd rs2 s

/-- FMOVr on all 64 bits of x[rs1] (R202). -/
def fmovr (size : FpSize) (c : RCond) (rd rs1 rs2 : Reg) (s : State) : Res :=
  fmov size (rcondTest c (s.readReg rs1)) rd rs2 s

/-- FMOVScc_fcc0 (R217). -/
def execFmovscc_fcc0 (cond : FCond) (rd : Reg) (rs2 : Reg) (s : State) : Res :=
  fmovFcc .single .fcc0 cond rd rs2 s

/-- FMOVScc_fcc1 (R217). -/
def execFmovscc_fcc1 (cond : FCond) (rd : Reg) (rs2 : Reg) (s : State) : Res :=
  fmovFcc .single .fcc1 cond rd rs2 s

/-- FMOVScc_fcc2 (R217). -/
def execFmovscc_fcc2 (cond : FCond) (rd : Reg) (rs2 : Reg) (s : State) : Res :=
  fmovFcc .single .fcc2 cond rd rs2 s

/-- FMOVScc_fcc3 (R217). -/
def execFmovscc_fcc3 (cond : FCond) (rd : Reg) (rs2 : Reg) (s : State) : Res :=
  fmovFcc .single .fcc3 cond rd rs2 s

/-- FMOVScc_icc (R217). -/
def execFmovscc_icc (cond : ICond) (rd : Reg) (rs2 : Reg) (s : State) : Res :=
  fmovIcc .single .icc cond rd rs2 s

/-- FMOVScc_xcc (R217). -/
def execFmovscc_xcc (cond : ICond) (rd : Reg) (rs2 : Reg) (s : State) : Res :=
  fmovIcc .single .xcc cond rd rs2 s

/-- FMOVDcc_fcc0 (R218). -/
def execFmovdcc_fcc0 (cond : FCond) (rd : Reg) (rs2 : Reg) (s : State) : Res :=
  fmovFcc .double .fcc0 cond rd rs2 s

/-- FMOVDcc_fcc1 (R218). -/
def execFmovdcc_fcc1 (cond : FCond) (rd : Reg) (rs2 : Reg) (s : State) : Res :=
  fmovFcc .double .fcc1 cond rd rs2 s

/-- FMOVDcc_fcc2 (R218). -/
def execFmovdcc_fcc2 (cond : FCond) (rd : Reg) (rs2 : Reg) (s : State) : Res :=
  fmovFcc .double .fcc2 cond rd rs2 s

/-- FMOVDcc_fcc3 (R218). -/
def execFmovdcc_fcc3 (cond : FCond) (rd : Reg) (rs2 : Reg) (s : State) : Res :=
  fmovFcc .double .fcc3 cond rd rs2 s

/-- FMOVDcc_icc (R218). -/
def execFmovdcc_icc (cond : ICond) (rd : Reg) (rs2 : Reg) (s : State) : Res :=
  fmovIcc .double .icc cond rd rs2 s

/-- FMOVDcc_xcc (R218). -/
def execFmovdcc_xcc (cond : ICond) (rd : Reg) (rs2 : Reg) (s : State) : Res :=
  fmovIcc .double .xcc cond rd rs2 s

/-- FMOVQcc_fcc0 (R219). -/
def execFmovqcc_fcc0 (cond : FCond) (rd : Reg) (rs2 : Reg) (s : State) : Res :=
  fmovFcc .quad .fcc0 cond rd rs2 s

/-- FMOVQcc_fcc1 (R219). -/
def execFmovqcc_fcc1 (cond : FCond) (rd : Reg) (rs2 : Reg) (s : State) : Res :=
  fmovFcc .quad .fcc1 cond rd rs2 s

/-- FMOVQcc_fcc2 (R219). -/
def execFmovqcc_fcc2 (cond : FCond) (rd : Reg) (rs2 : Reg) (s : State) : Res :=
  fmovFcc .quad .fcc2 cond rd rs2 s

/-- FMOVQcc_fcc3 (R219). -/
def execFmovqcc_fcc3 (cond : FCond) (rd : Reg) (rs2 : Reg) (s : State) : Res :=
  fmovFcc .quad .fcc3 cond rd rs2 s

/-- FMOVQcc_icc (R219). -/
def execFmovqcc_icc (cond : ICond) (rd : Reg) (rs2 : Reg) (s : State) : Res :=
  fmovIcc .quad .icc cond rd rs2 s

/-- FMOVQcc_xcc (R219). -/
def execFmovqcc_xcc (cond : ICond) (rd : Reg) (rs2 : Reg) (s : State) : Res :=
  fmovIcc .quad .xcc cond rd rs2 s

/-- FMOVRSZ (R220). -/
def execFmovrsz (rd : Reg) (rs1 : Reg) (rs2 : Reg) (s : State) : Res :=
  fmovr .single .z rd rs1 rs2 s

/-- FMOVRSLEZ (R220). -/
def execFmovrslez (rd : Reg) (rs1 : Reg) (rs2 : Reg) (s : State) : Res :=
  fmovr .single .lez rd rs1 rs2 s

/-- FMOVRSLZ (R220). -/
def execFmovrslz (rd : Reg) (rs1 : Reg) (rs2 : Reg) (s : State) : Res :=
  fmovr .single .lz rd rs1 rs2 s

/-- FMOVRSNZ (R220). -/
def execFmovrsnz (rd : Reg) (rs1 : Reg) (rs2 : Reg) (s : State) : Res :=
  fmovr .single .nz rd rs1 rs2 s

/-- FMOVRSGZ (R220). -/
def execFmovrsgz (rd : Reg) (rs1 : Reg) (rs2 : Reg) (s : State) : Res :=
  fmovr .single .gz rd rs1 rs2 s

/-- FMOVRSGEZ (R220). -/
def execFmovrsgez (rd : Reg) (rs1 : Reg) (rs2 : Reg) (s : State) : Res :=
  fmovr .single .gez rd rs1 rs2 s

/-- FMOVRDZ (R221). -/
def execFmovrdz (rd : Reg) (rs1 : Reg) (rs2 : Reg) (s : State) : Res :=
  fmovr .double .z rd rs1 rs2 s

/-- FMOVRDLEZ (R221). -/
def execFmovrdlez (rd : Reg) (rs1 : Reg) (rs2 : Reg) (s : State) : Res :=
  fmovr .double .lez rd rs1 rs2 s

/-- FMOVRDLZ (R221). -/
def execFmovrdlz (rd : Reg) (rs1 : Reg) (rs2 : Reg) (s : State) : Res :=
  fmovr .double .lz rd rs1 rs2 s

/-- FMOVRDNZ (R221). -/
def execFmovrdnz (rd : Reg) (rs1 : Reg) (rs2 : Reg) (s : State) : Res :=
  fmovr .double .nz rd rs1 rs2 s

/-- FMOVRDGZ (R221). -/
def execFmovrdgz (rd : Reg) (rs1 : Reg) (rs2 : Reg) (s : State) : Res :=
  fmovr .double .gz rd rs1 rs2 s

/-- FMOVRDGEZ (R221). -/
def execFmovrdgez (rd : Reg) (rs1 : Reg) (rs2 : Reg) (s : State) : Res :=
  fmovr .double .gez rd rs1 rs2 s

/-- FMOVRQZ (R222). -/
def execFmovrqz (rd : Reg) (rs1 : Reg) (rs2 : Reg) (s : State) : Res :=
  fmovr .quad .z rd rs1 rs2 s

/-- FMOVRQLEZ (R222). -/
def execFmovrqlez (rd : Reg) (rs1 : Reg) (rs2 : Reg) (s : State) : Res :=
  fmovr .quad .lez rd rs1 rs2 s

/-- FMOVRQLZ (R222). -/
def execFmovrqlz (rd : Reg) (rs1 : Reg) (rs2 : Reg) (s : State) : Res :=
  fmovr .quad .lz rd rs1 rs2 s

/-- FMOVRQNZ (R222). -/
def execFmovrqnz (rd : Reg) (rs1 : Reg) (rs2 : Reg) (s : State) : Res :=
  fmovr .quad .nz rd rs1 rs2 s

/-- FMOVRQGZ (R222). -/
def execFmovrqgz (rd : Reg) (rs1 : Reg) (rs2 : Reg) (s : State) : Res :=
  fmovr .quad .gz rd rs1 rs2 s

/-- FMOVRQGEZ (R222). -/
def execFmovrqgez (rd : Reg) (rs1 : Reg) (rs2 : Reg) (s : State) : Res :=
  fmovr .quad .gez rd rs1 rs2 s

end Sys2Proof.Machine
end

