-- ==== Sys2Proof/Machine/Loads.lean ====
section
/-! DEFINITION. Loads: LDF, LDDF, LDQF, LDFSR, LDXFSR, LDD, LDDA (spec/43_loads.md). -/

namespace Sys2Proof.Machine

/-- LDF (R241). The bits are copied with no interpretation. -/
def execLdf (rd : Reg) (rs1 : Reg) (op2 : Operand2) (s : State) : Res :=
  raiseFirst s (s.fpCheck ++ alignmentCheck (s.effAddr rs1 op2) 4)
    (withLoad s (s.effAddr rs1 op2) 4
      (.next ((s.setF32 (singleReg rd)
        (BitVec.ofNat 32 (s.loadValue s.implicitAsi (s.effAddr rs1 op2) 4))).markDirty
          (singleReg rd)).advance))

/-- LDDF (R245). One 8-byte datum. -/
def execLddf (rd : Reg) (rs1 : Reg) (op2 : Operand2) (s : State) : Res :=
  raiseFirst s
    (s.fpCheck ++ alignmentCheck (s.effAddr rs1 op2) 4 ++
      [(misaligned (s.effAddr rs1 op2) 8, .lddfMemAddressNotAligned)])
    (withLoad s (s.effAddr rs1 op2) 8
      (.next ((s.setF64 (doubleReg rd)
        (BitVec.ofNat 64 (s.loadValue s.implicitAsi (s.effAddr rs1 op2) 8))).markDirty
          (doubleReg rd)).advance))

/-- LDQF (R242). A little-endian LDQF is refused: its arrangement is not known (R242). -/
def execLdqf (rd : Reg) (rs1 : Reg) (op2 : Operand2) (s : State) : Res :=
  raiseFirst s
    (s.fpCheck ++ alignmentCheck (s.effAddr rs1 op2) 4 ++
      [(misaligned (s.effAddr rs1 op2) 16, .ldqfMemAddressNotAligned),
        (quadFieldInvalid rd, .fpExceptionOther 6)])
    (if littleAsi s.implicitAsi then .refused .littleEndianQuadLoad
    else
      withLoad s (s.effAddr rs1 op2) 16
        (.next ((s.setF128 (doubleReg rd)
          (BitVec.ofNat 128 (s.loadValue s.implicitAsi (s.effAddr rs1 op2) 16))).markDirty
            (doubleReg rd)).advance))

/-- LDFSR (R243). The upper 32 bits of FSR are unaffected; a one for a reserved field is refused
(00_scope.md R4, D22, log 11). -/
def execLdfsr (rs1 : Reg) (op2 : Operand2) (s : State) : Res :=
  let w := s.loadValue s.implicitAsi (s.effAddr rs1 op2) 4
  raiseFirst s (s.fpCheck ++ alignmentCheck (s.effAddr rs1 op2) 4)
    (withLoad s (s.effAddr rs1 op2) 4
      (withReserved fsrReserved (BitVec.ofNat 64 w)
        (.next (State.advance { s with fsr := fsrAfterLoadWord s.fsr (BitVec.ofNat 32 w) }))))

/-- LDXFSR (R244). A one for a reserved field is refused (00_scope.md R4, D22, log 11). -/
def execLdxfsr (rs1 : Reg) (op2 : Operand2) (s : State) : Res :=
  let d := BitVec.ofNat 64 (s.loadValue s.implicitAsi (s.effAddr rs1 op2) 8)
  raiseFirst s (s.fpCheck ++ alignmentCheck (s.effAddr rs1 op2) 8)
    (withLoad s (s.effAddr rs1 op2) 8
      (withReserved fsrReserved d
        (.next (State.advance { s with fsr := fsrAfterLoadExtended s.fsr d }))))

/-- LDD (R246). The word at addr goes to the even register, the word at addr + 4 to the odd one. -/
def execLdd (rd : Reg) (rs1 : Reg) (op2 : Operand2) (s : State) : Res :=
  raiseFirst s (oddRdCheck rd ++ alignmentCheck (s.effAddr rs1 op2) 8)
    (withLoad s (s.effAddr rs1 op2) 8
      (.next (s.loadPair s.implicitAsi (s.effAddr rs1 op2) rd).advance))

/-- LDDA (R247). A NOFAULT ASI loads as an ordinary one (20_memory.md R83). -/
def execLdda (rd : Reg) (rs1 : Reg) (alt : AltOperand) (s : State) : Res :=
  raiseFirst s (oddRdCheck rd ++ alignmentCheck (s.altAddr rs1 alt) 8 ++ s.asiChecks (s.altAsi alt))
    (withLoad s (s.altAddr rs1 alt) 8
      (.next (s.loadPair (s.altAsi alt) (s.altAddr rs1 alt) rd).advance))

end Sys2Proof.Machine
end

