-- ==== Sys2Proof/Machine/MovrNop.lean ====
section
/-! DEFINITION. Move integer register on register condition, and NOP (spec/44_movr_nop.md). -/

namespace Sys2Proof.Machine

/-- MOVr: x[rd] <- v when the test on all 64 bits of x[rs1] holds, else nothing (R260). -/
def movr (c : RCond) (rd rs1 : Reg) (v : MovrOperand) (s : State) : Res :=
  .next (if rcondTest c (s.readReg rs1) then (s.writeReg rd (s.movrOperand v)).advance
    else s.advance)

/-- MOVRZ (R261). -/
def execMovrz (rd : Reg) (rs1 : Reg) (v : MovrOperand) (s : State) : Res :=
  movr .z rd rs1 v s

/-- MOVRLEZ (R262). -/
def execMovrlez (rd : Reg) (rs1 : Reg) (v : MovrOperand) (s : State) : Res :=
  movr .lez rd rs1 v s

/-- MOVRLZ (R263). -/
def execMovrlz (rd : Reg) (rs1 : Reg) (v : MovrOperand) (s : State) : Res :=
  movr .lz rd rs1 v s

/-- MOVRNZ (R264). -/
def execMovrnz (rd : Reg) (rs1 : Reg) (v : MovrOperand) (s : State) : Res :=
  movr .nz rd rs1 v s

/-- MOVRGZ (R265). -/
def execMovrgz (rd : Reg) (rs1 : Reg) (v : MovrOperand) (s : State) : Res :=
  movr .gz rd rs1 v s

/-- MOVRGEZ (R266). -/
def execMovrgez (rd : Reg) (rs1 : Reg) (v : MovrOperand) (s : State) : Res :=
  movr .gez rd rs1 v s

/-- NOP (R268). Nothing; PC and nPC advance. -/
def execNop (s : State) : Res :=
  .next s.advance

end Sys2Proof.Machine
end

