-- ==== Sys2Proof/Machine/StateRegs.lean ====
section
/-! DEFINITION. State and privileged register access: RDASR, WRASR, SIR, RDPR, WRPR
(spec/45_state_register_access.md). -/

namespace Sys2Proof.Machine

/-- x[rd] <- v and the program counters advance. -/
def writeAndAdvance (s : State) (rd : Reg) (v : Word) : Res := .next (s.writeReg rd v).advance

/-- RDY (R282). -/
def execRdy (rd : Reg) (s : State) : Res :=
  writeAndAdvance s rd (s.y.setWidth 64)

/-- RDCCR (R283). -/
def execRdccr (rd : Reg) (s : State) : Res :=
  writeAndAdvance s rd (s.ccr.setWidth 64)

/-- RDASI (R284). -/
def execRdasi (rd : Reg) (s : State) : Res :=
  writeAndAdvance s rd (s.asi.setWidth 64)

/-- RDPC (R286). With PSTATE.AM = 1 the upper 32 bits are zero (10_state.md R26). -/
def execRdpc (rd : Reg) (s : State) : Res :=
  writeAndAdvance s rd (s.maskAddr s.pc)

/-- RDFPRS (R281). Its wait for pending operations is over at once (10_state.md R57). -/
def execRdfprs (rd : Reg) (s : State) : Res :=
  writeAndAdvance s rd (s.fprs.setWidth 64)

/-- RDTICK (R285). The counter value is free (70_reset_and_hazards.md R428). -/
def execRdtick (rd : Reg) (s : State) : Res :=
  raiseFirst s [(!s.priv && s.npt, .privilegedAction)]
    (writeAndAdvance s.drawTick rd s.drawTick.tick)

/-- RDASR16_31 (R288). No such register is implemented (D11). -/
def execRdasr16_31 (_rd : Reg) (_rs1 : Reg) (s : State) : Res :=
  raise .illegalInstruction s

/-- WRY (R290). -/
def execWry (rs1 : Reg) (op2 : Operand2) (s : State) : Res :=
  .next (State.advance { s with y := (s.wrValue rs1 op2).extractLsb' 0 32 })

/-- WRCCR (R291). -/
def execWrccr (rs1 : Reg) (op2 : Operand2) (s : State) : Res :=
  .next (State.advance { s with ccr := (s.wrValue rs1 op2).extractLsb' 0 8 })

/-- WRASI (R292). -/
def execWrasi (rs1 : Reg) (op2 : Operand2) (s : State) : Res :=
  .next (State.advance { s with asi := (s.wrValue rs1 op2).extractLsb' 0 8 })

/-- WRFPRS (R293). -/
def execWrfprs (rs1 : Reg) (op2 : Operand2) (s : State) : Res :=
  .next (State.advance { s with fprs := (s.wrValue rs1 op2).extractLsb' 0 3 })

/-- WRASR16_31 (R294). No such register is implemented (D11, R287). -/
def execWrasr16_31 (_rd : Reg) (_rs1 : Reg) (_op2 : Operand2) (s : State) : Res :=
  raise .illegalInstruction s

/-- SIR (R295). Nonprivileged with SIR_enable = 0 it executes as a NOP. -/
def execSir (_simm13 : BitVec 13) (s : State) : Res :=
  if s.priv || s.sirEnable then raise .softwareInitiatedReset s else .next s.advance

/-- PR[n]: a privileged register zero-extended; TPC, TNPC, TSTATE and TT are the elements at TL; 15 (FQ)
and 16..30 are no registers (R296; 10_state.md R43). -/
def State.readPriv (s : State) (n : Reg) : Word :=
  match n.toNat with
  | 0 => (s.trapRegs s.tl).tpc
  | 1 => (s.trapRegs s.tl).tnpc
  | 2 => tstateFields s.params (s.trapRegs s.tl).tstate
  | 3 => (s.trapRegs s.tl).tt.setWidth 64
  | 4 => s.tick
  | 5 => s.tba
  | 6 => (s.pstate &&& pstateMask s.params).setWidth 64
  | 7 => s.tl.setWidth 64
  | 8 => s.pil.setWidth 64
  | 9 => winregRead s.params s.cwp
  | 10 => winregRead s.params s.cansave
  | 11 => winregRead s.params s.canrestore
  | 12 => winregRead s.params s.cleanwin
  | 13 => winregRead s.params s.otherwin
  | 14 => s.wstate.setWidth 64
  | 31 => verValue s.params
  | _ => 0

/-- A read of TICK (register 4) draws its counter; no other read changes the state (R296, D30). -/
def State.privRead (s : State) (n : Reg) : State := if n = 4 then s.drawTick else s

/-- RDPR (R296). FQ (15) does not exist in the model (D17). -/
def execRdpr (rd : Reg) (rs1 : Reg) (s : State) : Res :=
  raiseFirst s
    [(!s.priv, .privilegedOpcode),
      (decide (15 ≤ rs1.toNat) && decide (rs1.toNat ≤ 30), .illegalInstruction),
      (decide (rs1.toNat ≤ 3) && decide (s.tl = 0), .illegalInstruction)]
    (writeAndAdvance (s.privRead rs1) rd ((s.privRead rs1).readPriv rs1))

/-- A write of a window register goes on only where the value is at most NWINDOWS-1; above, the effect
is undefined and the model faults (R297, D8). -/
def withWinreg (s : State) (v : Word) (k : BitVec 5 → State) : Res :=
  match winregWrite s.params v with
  | none => .fault .windowRegisterOutOfRange
  | some x => .next (k x).advance

/-- PR[n] <- v (R297; 10_state.md R43). A one for a reserved field of TSTATE is refused (R4, D22,
log 11); TSTATE bits 19 and 18 are dropped where PID1, PID0 are not implemented (R41, log 29). -/
def State.writePriv (s : State) (n : Reg) (v : Word) : Res :=
  match n.toNat with
  | 0 => .next (s.setTrapRegs s.tl { s.trapRegs s.tl with tpc := v &&& ~~~3#64 }).advance
  | 1 => .next (s.setTrapRegs s.tl { s.trapRegs s.tl with tnpc := v &&& ~~~3#64 }).advance
  | 2 =>
    withReserved tstateReserved v
      (.next (s.setTrapRegs s.tl { s.trapRegs s.tl with tstate := tstateFields s.params v }).advance)
  | 3 => .next (s.setTrapRegs s.tl { s.trapRegs s.tl with tt := v.extractLsb' 0 9 }).advance
  | 4 => .next (State.advance { s with tick := v })
  | 5 => .next (State.advance { s with tba := v &&& ~~~0x7FFF#64 })
  | 6 =>
    if v.extractLsb' 6 2 = 3 then .refused .reservedMemoryModel
    else .next (State.advance { s with pstate := v.extractLsb' 0 12 &&& pstateMask s.params })
  | 7 =>
    if s.params.maxtl < (v.extractLsb' 0 3).toNat then .refused .trapLevelAboveMax
    else .next (State.advance { s with tl := v.extractLsb' 0 3 })
  | 8 => .next (State.advance { s with pil := v.extractLsb' 0 4 })
  | 9 => withWinreg s v fun x => { s with cwp := x }
  | 10 => withWinreg s v fun x => { s with cansave := x }
  | 11 => withWinreg s v fun x => { s with canrestore := x }
  | 12 => withWinreg s v fun x => { s with cleanwin := x }
  | 13 => withWinreg s v fun x => { s with otherwin := x }
  | 14 => .next (State.advance { s with wstate := v.extractLsb' 0 6 })
  | _ => raise .illegalInstruction s

/-- WRPR (R297). -/
def execWrpr (rd : Reg) (rs1 : Reg) (op2 : Operand2) (s : State) : Res :=
  raiseFirst s
    [(!s.priv, .privilegedOpcode), (decide (15 ≤ rd.toNat), .illegalInstruction),
      (decide (rd.toNat ≤ 3) && decide (s.tl = 0), .illegalInstruction)]
    (s.writePriv rd (s.wrValue rs1 op2))

end Sys2Proof.Machine
end

