-- ==== Sys2Proof/Machine/Stores.lean ====
section
/-! DEFINITION. Integer stores: STB, STH, STW, STX, STD and the alternate-space forms
(spec/47_stores.md). -/

namespace Sys2Proof.Machine

/-- The checks of a store to an alternate space, in order (R330). -/
def altStoreChecks (s : State) (asi : BitVec 8) (addr : Word) (n : Nat) : List (Bool × Exc) :=
  alignmentCheck addr n ++ s.asiChecks asi ++ nofaultCheck asi

/-- A plain store of the low n bytes of x[rd] (R330). -/
def storeN (n : Nat) (rd rs1 : Reg) (op2 : Operand2) (s : State) : Res :=
  raiseFirst s (alignmentCheck (s.effAddr rs1 op2) n)
    (withStore s (s.effAddr rs1 op2) n
      (.next (s.storeValue s.implicitAsi (s.effAddr rs1 op2) n (s.readReg rd).toNat).advance))

/-- An alternate-space store of the low n bytes of x[rd] (R330). -/
def storeAltN (n : Nat) (rd rs1 : Reg) (alt : AltOperand) (s : State) : Res :=
  raiseFirst s (altStoreChecks s (s.altAsi alt) (s.altAddr rs1 alt) n)
    (withStore s (s.altAddr rs1 alt) n
      (.next (s.storeValue (s.altAsi alt) (s.altAddr rs1 alt) n (s.readReg rd).toNat).advance))

/-- STB (R333). -/
def execStb (rd : Reg) (rs1 : Reg) (op2 : Operand2) (s : State) : Res :=
  storeN 1 rd rs1 op2 s

/-- STH (R334). -/
def execSth (rd : Reg) (rs1 : Reg) (op2 : Operand2) (s : State) : Res :=
  storeN 2 rd rs1 op2 s

/-- STW (R335). -/
def execStw (rd : Reg) (rs1 : Reg) (op2 : Operand2) (s : State) : Res :=
  storeN 4 rd rs1 op2 s

/-- STX (R336). -/
def execStx (rd : Reg) (rs1 : Reg) (op2 : Operand2) (s : State) : Res :=
  storeN 8 rd rs1 op2 s

/-- STD (R337). Two words, each in the byte order on its own (20_memory.md R88). -/
def execStd (rd : Reg) (rs1 : Reg) (op2 : Operand2) (s : State) : Res :=
  raiseFirst s (oddRdCheck rd ++ alignmentCheck (s.effAddr rs1 op2) 8)
    (withStore s (s.effAddr rs1 op2) 8
      (.next (s.storePair s.implicitAsi (s.effAddr rs1 op2) (s.readReg rd)
        (s.readReg (pairReg rd))).advance))

/-- STBA (R338). -/
def execStba (rd : Reg) (rs1 : Reg) (alt : AltOperand) (s : State) : Res :=
  storeAltN 1 rd rs1 alt s

/-- STHA (R341). -/
def execStha (rd : Reg) (rs1 : Reg) (alt : AltOperand) (s : State) : Res :=
  storeAltN 2 rd rs1 alt s

/-- STWA (R342). -/
def execStwa (rd : Reg) (rs1 : Reg) (alt : AltOperand) (s : State) : Res :=
  storeAltN 4 rd rs1 alt s

/-- STXA (R343). -/
def execStxa (rd : Reg) (rs1 : Reg) (alt : AltOperand) (s : State) : Res :=
  storeAltN 8 rd rs1 alt s

/-- STDA (R339). Two words, each in the byte order on its own (20_memory.md R88). -/
def execStda (rd : Reg) (rs1 : Reg) (alt : AltOperand) (s : State) : Res :=
  raiseFirst s
    (oddRdCheck rd ++ altStoreChecks s (s.altAsi alt) (s.altAddr rs1 alt) 8)
    (withStore s (s.altAddr rs1 alt) 8
      (.next (s.storePair (s.altAsi alt) (s.altAddr rs1 alt) (s.readReg rd)
        (s.readReg (pairReg rd))).advance))

end Sys2Proof.Machine
end

