-- ==== Sys2Proof/Machine/TaggedAdd.lean ====
section
/-! DEFINITION. Tagged add: TADDcc, TADDccTV (spec/48_tagged_add.md). -/

namespace Sys2Proof.Machine

/-- x[rd] <- a + b and all eight condition-code bits, with the given icc.V (R351 to R353). -/
def taggedAdd (s : State) (rd : Reg) (a b : Word) (v : Bool) : State :=
  { s with ccr := packCcr (addXcc a b) (taggedIcc a b v) }.writeReg rd (a + b)

/-- TADDcc (R352). icc.V reports the tag overflow; the sum is written in any case. -/
def execTaddcc (rd : Reg) (rs1 : Reg) (op2 : Operand2) (s : State) : Res :=
  .next (taggedAdd s rd (s.readReg rs1) (s.operand2 op2)
    (tagOverflow (s.readReg rs1) (s.operand2 op2))).advance

/-- TADDccTV (R353). On a tag overflow x[rd] and CCR are not changed. -/
def execTaddcctv (rd : Reg) (rs1 : Reg) (op2 : Operand2) (s : State) : Res :=
  raiseFirst s [(tagOverflow (s.readReg rs1) (s.operand2 op2), .tagOverflow)]
    (.next (taggedAdd s rd (s.readReg rs1) (s.operand2 op2) false).advance)

end Sys2Proof.Machine
end

