-- ==== Sys2Proof/Machine/Windows.lean ====
section
/-! DEFINITION. Register-window instructions: SAVE, RESTORE, SAVED, RESTORED
(spec/46_register_windows.md). SAVE and CLEANWIN are the uncorrected architecture's, the acknowledged
defect included (R317, D18). -/

namespace Sys2Proof.Machine

/-- The spill trap of SAVE: normal with WSTATE.NORMAL when OTHERWIN = 0, else other with WSTATE.OTHER
(R311, R313). -/
def State.spillExc (s : State) : Exc :=
  if s.otherwin = 0 then .spillNormal s.wstateNormal else .spillOther s.wstateOther

/-- The fill trap of RESTORE (R312, R313). -/
def State.fillExc (s : State) : Exc :=
  if s.otherwin = 0 then .fillNormal s.wstateNormal else .fillOther s.wstateOther

/-- SAVE (R311). Operands are read in the old window, rd is written in the new one. -/
def execSave (rd : Reg) (rs1 : Reg) (op2 : Operand2) (s : State) : Res :=
  raiseFirst s
    [(decide (s.cansave = 0), s.spillExc), (decide (s.cleanwin - s.canrestore = 0), .cleanWindow)]
    (match winregInc s.params s.canrestore with
      | none => .fault .windowRegisterOutOfRange
      | some canrestore =>
        .next ({ s with
          cwp := windowPlus s.params s.cwp 1
          cansave := s.cansave - 1
          canrestore := canrestore }.writeReg rd (s.readReg rs1 + s.operand2 op2)).advance)

/-- RESTORE (R312). Operands are read in the old window, rd is written in the restored one. -/
def execRestore (rd : Reg) (rs1 : Reg) (op2 : Operand2) (s : State) : Res :=
  raiseFirst s [(decide (s.canrestore = 0), s.fillExc)]
    (match winregInc s.params s.cansave with
      | none => .fault .windowRegisterOutOfRange
      | some cansave =>
        .next ({ s with
          cwp := windowMinusOne s.params s.cwp
          cansave := cansave
          canrestore := s.canrestore - 1 }.writeReg rd (s.readReg rs1 + s.operand2 op2)).advance)

/-- SAVED (R314). -/
def execSaved (s : State) : Res :=
  raiseFirst s [(!s.priv, .privilegedOpcode)]
    (match winregInc s.params s.cansave,
        winregDec (if s.otherwin = 0 then s.canrestore else s.otherwin) with
      | some cansave, some rest =>
        .next (State.advance (if s.otherwin = 0 then { s with cansave := cansave, canrestore := rest }
          else { s with cansave := cansave, otherwin := rest }))
      | _, _ => .fault .windowRegisterOutOfRange)

/-- CLEANWIN after RESTORED: incremented only when (CLEANWIN < (NWINDOWS-1)) (R315, R316). -/
def State.restoredCleanwin (s : State) : BitVec 5 :=
  if s.cleanwin.toNat < s.params.nwindows - 1 then s.cleanwin + 1 else s.cleanwin

/-- RESTORED (R316). -/
def execRestored (s : State) : Res :=
  raiseFirst s [(!s.priv, .privilegedOpcode)]
    (match winregInc s.params s.canrestore,
        winregDec (if s.otherwin = 0 then s.cansave else s.otherwin) with
      | some canrestore, some rest =>
        .next (State.advance (if s.otherwin = 0 then
            { s with canrestore := canrestore, cleanwin := s.restoredCleanwin, cansave := rest }
          else
            { s with canrestore := canrestore, cleanwin := s.restoredCleanwin, otherwin := rest }))
      | _, _ => .fault .windowRegisterOutOfRange)

end Sys2Proof.Machine
end

