-- ==== Sys2Proof/Machine/Dispatch.lean ====
section
/-! DEFINITION. One arm per constructor of Instr: the meaning of the instruction. -/

namespace Sys2Proof.Machine

def exec (i : Instr) (s : State) : Host.Outcome State Fault Refusal :=
  match i with
  | .bn a disp22 => Sys2Proof.Machine.execBn a disp22 s
  | .be a disp22 => Sys2Proof.Machine.execBe a disp22 s
  | .ble a disp22 => Sys2Proof.Machine.execBle a disp22 s
  | .bl a disp22 => Sys2Proof.Machine.execBl a disp22 s
  | .bleu a disp22 => Sys2Proof.Machine.execBleu a disp22 s
  | .bcs a disp22 => Sys2Proof.Machine.execBcs a disp22 s
  | .bneg a disp22 => Sys2Proof.Machine.execBneg a disp22 s
  | .bvs a disp22 => Sys2Proof.Machine.execBvs a disp22 s
  | .ba a disp22 => Sys2Proof.Machine.execBa a disp22 s
  | .bne a disp22 => Sys2Proof.Machine.execBne a disp22 s
  | .bg a disp22 => Sys2Proof.Machine.execBg a disp22 s
  | .bge a disp22 => Sys2Proof.Machine.execBge a disp22 s
  | .bgu a disp22 => Sys2Proof.Machine.execBgu a disp22 s
  | .bcc a disp22 => Sys2Proof.Machine.execBcc a disp22 s
  | .bpos a disp22 => Sys2Proof.Machine.execBpos a disp22 s
  | .bvc a disp22 => Sys2Proof.Machine.execBvc a disp22 s
  | .bpn a cc p disp19 => Sys2Proof.Machine.execBpn a cc p disp19 s
  | .bpe a cc p disp19 => Sys2Proof.Machine.execBpe a cc p disp19 s
  | .bple a cc p disp19 => Sys2Proof.Machine.execBple a cc p disp19 s
  | .bpl a cc p disp19 => Sys2Proof.Machine.execBpl a cc p disp19 s
  | .bpleu a cc p disp19 => Sys2Proof.Machine.execBpleu a cc p disp19 s
  | .bpcs a cc p disp19 => Sys2Proof.Machine.execBpcs a cc p disp19 s
  | .bpneg a cc p disp19 => Sys2Proof.Machine.execBpneg a cc p disp19 s
  | .bpvs a cc p disp19 => Sys2Proof.Machine.execBpvs a cc p disp19 s
  | .bpa a cc p disp19 => Sys2Proof.Machine.execBpa a cc p disp19 s
  | .bpne a cc p disp19 => Sys2Proof.Machine.execBpne a cc p disp19 s
  | .bpg a cc p disp19 => Sys2Proof.Machine.execBpg a cc p disp19 s
  | .bpge a cc p disp19 => Sys2Proof.Machine.execBpge a cc p disp19 s
  | .bpgu a cc p disp19 => Sys2Proof.Machine.execBpgu a cc p disp19 s
  | .bpcc a cc p disp19 => Sys2Proof.Machine.execBpcc a cc p disp19 s
  | .bppos a cc p disp19 => Sys2Proof.Machine.execBppos a cc p disp19 s
  | .bpvc a cc p disp19 => Sys2Proof.Machine.execBpvc a cc p disp19 s
  | .brz a p rs1 d16 => Sys2Proof.Machine.execBrz a p rs1 d16 s
  | .brlez a p rs1 d16 => Sys2Proof.Machine.execBrlez a p rs1 d16 s
  | .brlz a p rs1 d16 => Sys2Proof.Machine.execBrlz a p rs1 d16 s
  | .brnz a p rs1 d16 => Sys2Proof.Machine.execBrnz a p rs1 d16 s
  | .brgz a p rs1 d16 => Sys2Proof.Machine.execBrgz a p rs1 d16 s
  | .brgez a p rs1 d16 => Sys2Proof.Machine.execBrgez a p rs1 d16 s
  | .fbn a disp22 => Sys2Proof.Machine.execFbn a disp22 s
  | .fbne a disp22 => Sys2Proof.Machine.execFbne a disp22 s
  | .fblg a disp22 => Sys2Proof.Machine.execFblg a disp22 s
  | .fbul a disp22 => Sys2Proof.Machine.execFbul a disp22 s
  | .fbl a disp22 => Sys2Proof.Machine.execFbl a disp22 s
  | .fbug a disp22 => Sys2Proof.Machine.execFbug a disp22 s
  | .fbg a disp22 => Sys2Proof.Machine.execFbg a disp22 s
  | .fbu a disp22 => Sys2Proof.Machine.execFbu a disp22 s
  | .fba a disp22 => Sys2Proof.Machine.execFba a disp22 s
  | .fbe a disp22 => Sys2Proof.Machine.execFbe a disp22 s
  | .fbue a disp22 => Sys2Proof.Machine.execFbue a disp22 s
  | .fbge a disp22 => Sys2Proof.Machine.execFbge a disp22 s
  | .fbuge a disp22 => Sys2Proof.Machine.execFbuge a disp22 s
  | .fble a disp22 => Sys2Proof.Machine.execFble a disp22 s
  | .fbule a disp22 => Sys2Proof.Machine.execFbule a disp22 s
  | .fbo a disp22 => Sys2Proof.Machine.execFbo a disp22 s
  | .fbpn a cc p disp19 => Sys2Proof.Machine.execFbpn a cc p disp19 s
  | .fbpne a cc p disp19 => Sys2Proof.Machine.execFbpne a cc p disp19 s
  | .fbplg a cc p disp19 => Sys2Proof.Machine.execFbplg a cc p disp19 s
  | .fbpul a cc p disp19 => Sys2Proof.Machine.execFbpul a cc p disp19 s
  | .fbpl a cc p disp19 => Sys2Proof.Machine.execFbpl a cc p disp19 s
  | .fbpug a cc p disp19 => Sys2Proof.Machine.execFbpug a cc p disp19 s
  | .fbpg a cc p disp19 => Sys2Proof.Machine.execFbpg a cc p disp19 s
  | .fbpu a cc p disp19 => Sys2Proof.Machine.execFbpu a cc p disp19 s
  | .fbpa a cc p disp19 => Sys2Proof.Machine.execFbpa a cc p disp19 s
  | .fbpe a cc p disp19 => Sys2Proof.Machine.execFbpe a cc p disp19 s
  | .fbpue a cc p disp19 => Sys2Proof.Machine.execFbpue a cc p disp19 s
  | .fbpge a cc p disp19 => Sys2Proof.Machine.execFbpge a cc p disp19 s
  | .fbpuge a cc p disp19 => Sys2Proof.Machine.execFbpuge a cc p disp19 s
  | .fbple a cc p disp19 => Sys2Proof.Machine.execFbple a cc p disp19 s
  | .fbpule a cc p disp19 => Sys2Proof.Machine.execFbpule a cc p disp19 s
  | .fbpo a cc p disp19 => Sys2Proof.Machine.execFbpo a cc p disp19 s
  | .nop => Sys2Proof.Machine.execNop s
  | .casa rd rs1 asi rs2 => Sys2Proof.Machine.execCasa rd rs1 asi rs2 s
  | .casxa rd rs1 asi rs2 => Sys2Proof.Machine.execCasxa rd rs1 asi rs2 s
  | .swap rd rs1 op2 => Sys2Proof.Machine.execSwap rd rs1 op2 s
  | .fmovscc_fcc0 cond rd rs2 => Sys2Proof.Machine.execFmovscc_fcc0 cond rd rs2 s
  | .fmovscc_fcc1 cond rd rs2 => Sys2Proof.Machine.execFmovscc_fcc1 cond rd rs2 s
  | .fmovscc_fcc2 cond rd rs2 => Sys2Proof.Machine.execFmovscc_fcc2 cond rd rs2 s
  | .fmovscc_fcc3 cond rd rs2 => Sys2Proof.Machine.execFmovscc_fcc3 cond rd rs2 s
  | .fmovscc_icc cond rd rs2 => Sys2Proof.Machine.execFmovscc_icc cond rd rs2 s
  | .fmovscc_xcc cond rd rs2 => Sys2Proof.Machine.execFmovscc_xcc cond rd rs2 s
  | .fmovdcc_fcc0 cond rd rs2 => Sys2Proof.Machine.execFmovdcc_fcc0 cond rd rs2 s
  | .fmovdcc_fcc1 cond rd rs2 => Sys2Proof.Machine.execFmovdcc_fcc1 cond rd rs2 s
  | .fmovdcc_fcc2 cond rd rs2 => Sys2Proof.Machine.execFmovdcc_fcc2 cond rd rs2 s
  | .fmovdcc_fcc3 cond rd rs2 => Sys2Proof.Machine.execFmovdcc_fcc3 cond rd rs2 s
  | .fmovdcc_icc cond rd rs2 => Sys2Proof.Machine.execFmovdcc_icc cond rd rs2 s
  | .fmovdcc_xcc cond rd rs2 => Sys2Proof.Machine.execFmovdcc_xcc cond rd rs2 s
  | .fmovqcc_fcc0 cond rd rs2 => Sys2Proof.Machine.execFmovqcc_fcc0 cond rd rs2 s
  | .fmovqcc_fcc1 cond rd rs2 => Sys2Proof.Machine.execFmovqcc_fcc1 cond rd rs2 s
  | .fmovqcc_fcc2 cond rd rs2 => Sys2Proof.Machine.execFmovqcc_fcc2 cond rd rs2 s
  | .fmovqcc_fcc3 cond rd rs2 => Sys2Proof.Machine.execFmovqcc_fcc3 cond rd rs2 s
  | .fmovqcc_icc cond rd rs2 => Sys2Proof.Machine.execFmovqcc_icc cond rd rs2 s
  | .fmovqcc_xcc cond rd rs2 => Sys2Proof.Machine.execFmovqcc_xcc cond rd rs2 s
  | .fmovrsz rd rs1 rs2 => Sys2Proof.Machine.execFmovrsz rd rs1 rs2 s
  | .fmovrslez rd rs1 rs2 => Sys2Proof.Machine.execFmovrslez rd rs1 rs2 s
  | .fmovrslz rd rs1 rs2 => Sys2Proof.Machine.execFmovrslz rd rs1 rs2 s
  | .fmovrsnz rd rs1 rs2 => Sys2Proof.Machine.execFmovrsnz rd rs1 rs2 s
  | .fmovrsgz rd rs1 rs2 => Sys2Proof.Machine.execFmovrsgz rd rs1 rs2 s
  | .fmovrsgez rd rs1 rs2 => Sys2Proof.Machine.execFmovrsgez rd rs1 rs2 s
  | .fmovrdz rd rs1 rs2 => Sys2Proof.Machine.execFmovrdz rd rs1 rs2 s
  | .fmovrdlez rd rs1 rs2 => Sys2Proof.Machine.execFmovrdlez rd rs1 rs2 s
  | .fmovrdlz rd rs1 rs2 => Sys2Proof.Machine.execFmovrdlz rd rs1 rs2 s
  | .fmovrdnz rd rs1 rs2 => Sys2Proof.Machine.execFmovrdnz rd rs1 rs2 s
  | .fmovrdgz rd rs1 rs2 => Sys2Proof.Machine.execFmovrdgz rd rs1 rs2 s
  | .fmovrdgez rd rs1 rs2 => Sys2Proof.Machine.execFmovrdgez rd rs1 rs2 s
  | .fmovrqz rd rs1 rs2 => Sys2Proof.Machine.execFmovrqz rd rs1 rs2 s
  | .fmovrqlez rd rs1 rs2 => Sys2Proof.Machine.execFmovrqlez rd rs1 rs2 s
  | .fmovrqlz rd rs1 rs2 => Sys2Proof.Machine.execFmovrqlz rd rs1 rs2 s
  | .fmovrqnz rd rs1 rs2 => Sys2Proof.Machine.execFmovrqnz rd rs1 rs2 s
  | .fmovrqgz rd rs1 rs2 => Sys2Proof.Machine.execFmovrqgz rd rs1 rs2 s
  | .fmovrqgez rd rs1 rs2 => Sys2Proof.Machine.execFmovrqgez rd rs1 rs2 s
  | .movrz rd rs1 v => Sys2Proof.Machine.execMovrz rd rs1 v s
  | .movrlez rd rs1 v => Sys2Proof.Machine.execMovrlez rd rs1 v s
  | .movrlz rd rs1 v => Sys2Proof.Machine.execMovrlz rd rs1 v s
  | .movrnz rd rs1 v => Sys2Proof.Machine.execMovrnz rd rs1 v s
  | .movrgz rd rs1 v => Sys2Proof.Machine.execMovrgz rd rs1 v s
  | .movrgez rd rs1 v => Sys2Proof.Machine.execMovrgez rd rs1 v s
  | .ldf rd rs1 op2 => Sys2Proof.Machine.execLdf rd rs1 op2 s
  | .lddf rd rs1 op2 => Sys2Proof.Machine.execLddf rd rs1 op2 s
  | .ldqf rd rs1 op2 => Sys2Proof.Machine.execLdqf rd rs1 op2 s
  | .ldfsr rs1 op2 => Sys2Proof.Machine.execLdfsr rs1 op2 s
  | .ldxfsr rs1 op2 => Sys2Proof.Machine.execLdxfsr rs1 op2 s
  | .ldd rd rs1 op2 => Sys2Proof.Machine.execLdd rd rs1 op2 s
  | .ldda rd rs1 alt => Sys2Proof.Machine.execLdda rd rs1 alt s
  | .stb rd rs1 op2 => Sys2Proof.Machine.execStb rd rs1 op2 s
  | .sth rd rs1 op2 => Sys2Proof.Machine.execSth rd rs1 op2 s
  | .stw rd rs1 op2 => Sys2Proof.Machine.execStw rd rs1 op2 s
  | .stx rd rs1 op2 => Sys2Proof.Machine.execStx rd rs1 op2 s
  | .std rd rs1 op2 => Sys2Proof.Machine.execStd rd rs1 op2 s
  | .stba rd rs1 alt => Sys2Proof.Machine.execStba rd rs1 alt s
  | .stha rd rs1 alt => Sys2Proof.Machine.execStha rd rs1 alt s
  | .stwa rd rs1 alt => Sys2Proof.Machine.execStwa rd rs1 alt s
  | .stxa rd rs1 alt => Sys2Proof.Machine.execStxa rd rs1 alt s
  | .stda rd rs1 alt => Sys2Proof.Machine.execStda rd rs1 alt s
  | .rdy rd => Sys2Proof.Machine.execRdy rd s
  | .rdccr rd => Sys2Proof.Machine.execRdccr rd s
  | .rdasi rd => Sys2Proof.Machine.execRdasi rd s
  | .rdtick rd => Sys2Proof.Machine.execRdtick rd s
  | .rdpc rd => Sys2Proof.Machine.execRdpc rd s
  | .rdfprs rd => Sys2Proof.Machine.execRdfprs rd s
  | .rdasr16_31 rd rs1 => Sys2Proof.Machine.execRdasr16_31 rd rs1 s
  | .wry rs1 op2 => Sys2Proof.Machine.execWry rs1 op2 s
  | .wrccr rs1 op2 => Sys2Proof.Machine.execWrccr rs1 op2 s
  | .wrasi rs1 op2 => Sys2Proof.Machine.execWrasi rs1 op2 s
  | .wrfprs rs1 op2 => Sys2Proof.Machine.execWrfprs rs1 op2 s
  | .wrasr16_31 rd rs1 op2 => Sys2Proof.Machine.execWrasr16_31 rd rs1 op2 s
  | .sir simm13 => Sys2Proof.Machine.execSir simm13 s
  | .rdpr rd rs1 => Sys2Proof.Machine.execRdpr rd rs1 s
  | .wrpr rd rs1 op2 => Sys2Proof.Machine.execWrpr rd rs1 op2 s
  | .save rd rs1 op2 => Sys2Proof.Machine.execSave rd rs1 op2 s
  | .restore rd rs1 op2 => Sys2Proof.Machine.execRestore rd rs1 op2 s
  | .saved => Sys2Proof.Machine.execSaved s
  | .restored => Sys2Proof.Machine.execRestored s
  | .taddcc rd rs1 op2 => Sys2Proof.Machine.execTaddcc rd rs1 op2 s
  | .taddcctv rd rs1 op2 => Sys2Proof.Machine.execTaddcctv rd rs1 op2 s

end Sys2Proof.Machine
end

