-- ==== Sys2Proof/Machine/Step.lean ====
section
/-! DEFINITION. One step of the machine: fetch, decode, execute (spec/00_scope.md section 7). -/

namespace Sys2Proof.Machine

/-- One step: the word at the PC is fetched and decoded, and its instruction executed. An annulled
delay instruction is skipped by the branch's own choice of (pc, npc) (40_branches.md R161). -/
def step (s : State) : Host.Outcome State Fault Refusal :=
  match fetchFault s with
  | some r => .fault r
  | none =>
    match decode (s.wordAt s.pc) with
    | .instr i => exec i s
    | .stop d => execStop d s

/-- The state with a table row's word stored where `step` fetches its next instruction: four bytes at
the PC, big-endian, declared as program text and as existing memory, the machine out of error_state.
It stands for the loading of a program from outside (92_eei_decisions.md D20, log 7). -/
def State.withFetchWord (s : State) (nbits w : Nat) : State :=
  let here : Range := ⟨(s.maskAddr s.pc).toNat, 4⟩
  { s with
    launch := { s.launch with
      text := if s.inText s.pc then s.launch.text else here :: s.launch.text
      extent := if s.codeExists s.pc then s.launch.extent else here :: s.launch.extent }
    errorState := false
    mem := writeIWord s.mem (s.maskAddr s.pc).toNat (BitVec.ofNat 32 (w % 2 ^ nbits)) }

end Sys2Proof.Machine
end

