-- ==== Sys2Proof/Machine/FpExceptions.lean ====
section
/-! DEFINITION. The floating-point exception rules that bind every arithmetic FPop: what is detected,
what traps, what FSR records (spec/42_fp_move_and_fsr.md R205 to R215). No row of the opcode table is
an arithmetic FPop (00_scope.md section 3), so no arm calls these operations (log 27). -/

namespace Sys2Proof.Machine

/-- The IEEE 754 exceptions an FPop detects (R205). -/
structure FpDetected where
  nv : Bool
  of : Bool
  uf : Bool
  dz : Bool
  nx : Bool
  deriving DecidableEq, Repr

/-- The five exceptions as bits in the order of FSR.cexc, FSR.aexc and FSR.TEM: nv of uf dz nx
(10_state.md R35). -/
def FpDetected.bits (d : FpDetected) : BitVec 5 :=
  (BitVec.ofBool d.nv ++ BitVec.ofBool d.of ++ BitVec.ofBool d.uf ++ BitVec.ofBool d.dz
    ++ BitVec.ofBool d.nx : BitVec 5)

/-- The single cexc bit of each exception (10_state.md R35). -/
def cexcNv : BitVec 5 := 0b10000
/-- ofc (R35). -/
def cexcOf : BitVec 5 := 0b01000
/-- ufc (R35). -/
def cexcUf : BitVec 5 := 0b00100
/-- dzc (R35). -/
def cexcDz : BitVec 5 := 0b00010
/-- nxc (R35). -/
def cexcNx : BitVec 5 := 0b00001

/-- The decision function of R210, the cexc bit of the IEEE_754_exception trap or none: overflow, then
underflow, then inexact, each when detected and enabled. An enabled invalid or division-by-zero
exception, of which the rules say only that it traps (R205), comes before them (log 27). -/
def fpTrapBit (tem : BitVec 5) (d : FpDetected) : Option (BitVec 5) :=
  if d.nv && tem.getLsbD 4 then some cexcNv
  else if d.dz && tem.getLsbD 1 then some cexcDz
  else if d.of && tem.getLsbD 3 then some cexcOf
  else if d.uf && tem.getLsbD 2 then some cexcUf
  else if d.nx && tem.getLsbD 0 then some cexcNx
  else none

/-- FSR.cexc after an FPop: the trapping exception's bit, else the bits of all detected (R205, R207,
R208, R210). -/
def fpCexc (tem : BitVec 5) (d : FpDetected) : BitVec 5 := (fpTrapBit tem d).getD d.bits

/-- The end of an arithmetic FPop: the trap fp_exception_ieee_754, which leaves the destination, fcc
and aexc unchanged, or FSR.ftt <- 0, FSR.cexc <- detected, FSR.aexc <- aexc OR cexc and the result
written (R205; 60_exceptions.md R382). -/
def completeFpop (d : FpDetected) (write : State → State) (s : State) : Res :=
  match fpTrapBit (fsrTem s.fsr) d with
  | some cexc => raise (.fpExceptionIeee754 cexc) s
  | none =>
    .next (write { s with
      fsr := fsrPutAexc (fsrPutCexc (fsrPutFtt s.fsr 0) d.bits) (fsrAexc s.fsr ||| d.bits) }).advance

/-- A destination format: m, the smallest normalized number, and e, the distance from 1 to the next
larger number (R214). -/
structure FpFormat where
  m : Rat
  e : Rat

/-- Single precision: m = 2^-126, e = 2^-23 (R214). -/
def fpSingle : FpFormat := ⟨1 / 2 ^ 126, 1 / 2 ^ 23⟩

/-- Double precision: m = 2^-1022, e = 2^-52 (R214). -/
def fpDouble : FpFormat := ⟨1 / 2 ^ 1022, 1 / 2 ^ 52⟩

/-- Quad precision: m = 2^-16382, e = 2^-112 (R214). -/
def fpQuad : FpFormat := ⟨1 / 2 ^ 16382, 1 / 2 ^ 112⟩

/-- Tiny, detected before rounding: the exact unrounded result u has magnitude strictly between zero
and m (R211, R212). -/
def tinyBeforeRounding (f : FpFormat) (u : Rat) : Bool :=
  decide (u ≠ 0) && decide (-f.m < u) && decide (u < f.m)

/-- Tiny, detected after rounding: u is not zero and lies in the range of R214 for the rounding
direction FSR.RD. -/
def tinyAfterRounding (f : FpFormat) (rd : BitVec 2) (u : Rat) : Bool :=
  decide (u ≠ 0) &&
    (match rd.toNat with
    | 0 => decide (-(f.m * (1 - f.e / 4)) < u) && decide (u < f.m * (1 - f.e / 4))
    | 1 => decide (-f.m < u) && decide (u < f.m)
    | 2 => decide (-f.m < u) && decide (u ≤ f.m * (1 - f.e / 2))
    | _ => decide (-(f.m * (1 - f.e / 2)) ≤ u) && decide (u < f.m))

/-- Tiny, as the implementation detects it (D5). -/
def tiny (afterRounding : Bool) (f : FpFormat) (rd : BitVec 2) (u : Rat) : Bool :=
  if afterRounding then tinyAfterRounding f rd u else tinyBeforeRounding f u

/-- The underflow and inexact exceptions an FPop with exact result u and correctly rounded result r
detects: inexact when r is not u; underflow when u is tiny and, with UFM = 0, inexact as well (R211,
R212, R215). -/
def detectUnderflow (afterRounding ufm : Bool) (f : FpFormat) (rd : BitVec 2) (u r : Rat) :
    FpDetected where
  nv := false
  of := false
  uf := tiny afterRounding f rd u && (ufm || decide (u ≠ r))
  dz := false
  nx := decide (u ≠ r)

end Sys2Proof.Machine
end

