-- ==== Sys2Proof/Safety.lean ====
section
/-! DEFINITION. What a legal state and a safe run are, and the vocabulary in which statements say what
an instruction writes and that it writes nothing else. -/

namespace Sys2Proof.Machine

open Sys2Proof.Config

/-! ### Legal states -/

/-- The reserved bits of FSR, and qne, which is 0 in a machine without an FQ (10_state.md R35,
00_scope.md R4, 92_eei_decisions.md D17). -/
def fsrZeroBits : Word := 0xFFFFFFC030303000

/-- A legal state: what the spec says of the ranges, the reserved fields and the alignment of the
machine's registers. -/
structure State.Legal (s : State) : Prop where
  /-- The parameters have legal values (00_scope.md section 4, R44, R421). -/
  params : s.params.wf
  /-- Memory is in canonical form. -/
  mem : Memory.wf s.mem = true
  /-- PC is a multiple of 4 (R24). -/
  pc : s.pc.extractLsb' 0 2 = 0
  /-- nPC is a multiple of 4 (R24). -/
  npc : s.npc.extractLsb' 0 2 = 0
  /-- Every TPC is a multiple of 4 (R297). -/
  tpc : ∀ n : BitVec 3, (s.trapRegs n).tpc.extractLsb' 0 2 = 0
  /-- Every TNPC is a multiple of 4 (R297). -/
  tnpc : ∀ n : BitVec 3, (s.trapRegs n).tnpc.extractLsb' 0 2 = 0
  /-- Every TSTATE holds nothing outside its fields (R40, R41, R297). -/
  tstate : ∀ n : BitVec 3, tstateFields s.params (s.trapRegs n).tstate = (s.trapRegs n).tstate
  /-- TL is at most MAXTL (R39, R297). -/
  tl : s.tl.toNat ≤ s.params.maxtl
  /-- error_state is entered at TL = MAXTL only (R361, R375). -/
  error : s.errorState = true → s.tl.toNat = s.params.maxtl
  /-- The unimplemented bits of PSTATE are zero (R38). -/
  pstate : s.pstate &&& pstateMask s.params = s.pstate
  /-- PSTATE.MM is not the reserved value 3 (R37, R297). -/
  mm : s.mm ≠ 3
  /-- TBA[14:0] is zero (R43). -/
  tba : s.tba.extractLsb' 0 15 = 0
  /-- CWP is in 0..NWINDOWS-1 (R44). -/
  cwp : s.cwp.toNat < s.params.nwindows
  /-- CANSAVE is in 0..NWINDOWS-1 (R44). -/
  cansave : s.cansave.toNat < s.params.nwindows
  /-- CANRESTORE is in 0..NWINDOWS-1 (R44). -/
  canrestore : s.canrestore.toNat < s.params.nwindows
  /-- CLEANWIN is in 0..NWINDOWS-1 (R44, R47). -/
  cleanwin : s.cleanwin.toNat < s.params.nwindows
  /-- OTHERWIN is in 0..NWINDOWS-1 (R44). -/
  otherwin : s.otherwin.toNat < s.params.nwindows
  /-- The reserved bits of FSR and qne are zero (R35, R243, R244). -/
  fsr : s.fsr &&& fsrZeroBits = 0

/-! ### Safe runs -/

/-- k steps lead from s to t, none of them a fault or a refusal. -/
def State.runsTo (s : State) (k : Nat) (t : State) : Prop := Host.Core.run Sys2Proof.core k s = .next t

/-- A safe run of k steps: it reaches a state, and that state is legal and not error_state. -/
def State.safeRun (s : State) (k : Nat) : Prop := ∃ t, s.runsTo k t ∧ t.Legal ∧ t.errorState = false

/-! ### What an instruction writes -/

/-- The storage cells behind the integer registers: the two sets of globals and the windows' locals
and ins (10_state.md R22, R23). -/
inductive IntCell where
  | global (i : Fin 8)
  | altGlobal (i : Fin 8)
  | loc (w : Fin 32) (i : Fin 8)
  | inn (w : Fin 32) (i : Fin 8)
  deriving DecidableEq, Repr

/-- What a cell holds. -/
def State.cell (s : State) : IntCell → Word
  | .global i => s.globals.get i
  | .altGlobal i => s.altGlobals.get i
  | .loc w i => (s.locals.get w).get i
  | .inn w i => (s.ins.get w).get i

/-- The cell a register number names; r[0] names none (10_state.md R21 to R23). -/
def State.cellOf (s : State) (r : Reg) : Option IntCell :=
  if r = 0 then none
  else
    match regGroup r with
    | .globals => some (if s.ag then .altGlobal (groupIndex r) else .global (groupIndex r))
    | .outs => some (.inn (winIndex (windowPlus s.params s.cwp 1)) (groupIndex r))
    | .locals => some (.loc (winIndex s.cwp) (groupIndex r))
    | .ins => some (.inn (winIndex s.cwp) (groupIndex r))

/-- t is s gone on to the next instruction with the given values written to the given cells (none: a
discarded write) and nothing else changed: every other register, the status and special registers and
every byte of memory are as in s. -/
def WroteInts (s t : State) (dests : List (Option IntCell × Word)) : Prop :=
  t = { s with
    pc := s.npc
    npc := s.npc + 4
    globals := t.globals
    altGlobals := t.altGlobals
    locals := t.locals
    ins := t.ins } ∧
  (∀ c v, (some c, v) ∈ dests → t.cell c = v) ∧
  (∀ c, (∀ v, (some c, v) ∉ dests) → t.cell c = s.cell c)

/-- t is s gone on to the next instruction with the given words written to F and nothing else
changed. -/
def WroteFloats (s t : State) (dests : List (BitVec 6 × BitVec 32)) : Prop :=
  t = { s with pc := s.npc, npc := s.npc + 4, f := t.f } ∧
  (∀ n v, (n, v) ∈ dests → t.fWord n = v) ∧
  (∀ n, (∀ v, (n, v) ∉ dests) → t.fWord n = s.fWord n)

/-- m' is m with the given bytes stored at a, a + 1, ... and every other byte as it was. -/
def MemWritten (m m' : Memory) (a : Nat) (bytes : List Byte) : Prop :=
  (∀ i b, bytes[i]? = some b → readByte m' (a + i) = b) ∧
  (∀ x, (x < a ∨ a + bytes.length ≤ x) → readByte m' x = readByte m x)

/-- f[rd] <- f[rs2] of the given size, the dirty bit of the destination's half set, and nothing else
changed: t is s gone on (42_fp_move_and_fsr.md R201; 10_state.md R30, R33, R34). -/
def MovedFloat (size : FpSize) (s t : State) (rd rs2 : Reg) : Prop :=
  match size with
  | .single =>
    WroteFloats { s with fprs := s.fprs ||| 1 } t [(singleReg rd, s.fWord (singleReg rs2))]
  | .double =>
    let n := doubleReg rd
    let k := doubleReg rs2
    WroteFloats { s with fprs := s.fprs ||| (if n.toNat < 32 then 1 else 2) } t
      [(n, s.fWord k), (n + 1, s.fWord (k + 1))]
  | .quad =>
    let n := doubleReg rd
    let k := doubleReg rs2
    WroteFloats { s with fprs := s.fprs ||| (if n.toNat < 32 then 1 else 2) } t
      [(n, s.fWord k), (n + 1, s.fWord (k + 1)), (n + 2, s.fWord (k + 2)), (n + 3, s.fWord (k + 3))]

/-- The eight rows of the table of 40_branches.md R161: where a branch goes, and that it changes
nothing but (pc, npc). always and never say which unconditional kind the branch is, a is its annul
bit, taken its condition, T its target. -/
def BranchRow (s t : State) (always never a taken : Bool) (T : Word) : Prop :=
  t = { s with pc := t.pc, npc := t.npc } ∧
  (always = false → never = false → a = false → taken = true → t.pc = s.npc ∧ t.npc = T) ∧
  (always = false → never = false → a = false → taken = false →
    t.pc = s.npc ∧ t.npc = s.npc + 4) ∧
  (always = false → never = false → a = true → taken = true → t.pc = s.npc ∧ t.npc = T) ∧
  (always = false → never = false → a = true → taken = false →
    t.pc = s.npc + 4 ∧ t.npc = s.npc + 8) ∧
  (always = true → a = false → t.pc = s.npc ∧ t.npc = T) ∧
  (always = true → a = true → t.pc = T ∧ t.npc = T + 4) ∧
  (never = true → a = false → t.pc = s.npc ∧ t.npc = s.npc + 4) ∧
  (never = true → a = true → t.pc = s.npc + 4 ∧ t.npc = s.npc + 8)

/-- The value of n bytes at an address in the byte order of an ASI (20_memory.md R85). -/
def State.valueAt (s : State) (asi : BitVec 8) (a : Word) (n : Nat) : Nat :=
  bytesValue (littleAsi asi) (readBytes s.mem a.toNat n)

/-- A store or atomic of n bytes at the address may go on: it is aligned, there is memory, and no byte
of it is program text (20_memory.md R90, R100; 92_eei_decisions.md D12). -/
def State.storable (s : State) (a : Word) (n : Nat) : Prop :=
  a.toNat % n = 0 ∧ s.hasMemory a n = true ∧ s.touchesText a n = false

/-- A load of n bytes at the address may go on. -/
def State.loadable (s : State) (a : Word) (n : Nat) : Prop :=
  a.toNat % n = 0 ∧ s.hasMemory a n = true

/-- The ASI may be used for an access: it is known, and unrestricted or used in privileged mode
(20_memory.md R81). -/
def State.asiUsable (s : State) (asi : BitVec 8) : Prop :=
  knownAsi asi = true ∧ (restrictedAsi asi = false ∨ s.priv = true)

/-- The state gone on to the next instruction with memory m. -/
def State.nextWithMem (s : State) (m : Memory) : State :=
  { s with pc := s.npc, npc := s.npc + 4, mem := m }

/-- The instruction is a branch: a row of Bicc, BPcc, BPr, FBfcc or FBPfcc. -/
def isBranchInstr (i : Instr) : Prop :=
  (∃ c a d, i = mkBicc c a d) ∨ (∃ c a cc p d, i = mkBpcc c a cc p d) ∨
    (∃ c a p r d, i = mkBpr c a p r d) ∨ (∃ c a d, i = mkFbfcc c a d) ∨
    (∃ c a cc p d, i = mkFbpfcc c a cc p d)

end Sys2Proof.Machine
end

