-- ==== Sys2Proof/Certificates/Slice0/Obligations.lean ====
section
/-! DEFINITION. The statements about the machine, from the numbered rules of spec/. "Completes" means
that exec answers a next state. -/

open Sys2Proof Sys2Proof.Machine Sys2Proof.Config

/-! ### Encoding -/

/-- Decoding the encoding of any well-formed instruction gives the instruction back, every operand at
every value (30_encoding.md R120 to R137). -/
def Obligations.DecodeUndoesEncode : Prop :=
  ∀ i : Instr, i.wf = true → decode (encode i) = .instr i

/-- A word that decodes to an instruction is the encoding of that instruction, which is well-formed:
no bit of a word is dropped and no two words are one instruction (30_encoding.md R137). -/
def Obligations.EncodeUndoesDecode : Prop :=
  ∀ (w : IWord) (i : Instr), decode w = .instr i → i.wf = true ∧ encode i = w

/-- Words the spec prints with their assembly text decode to those instructions. -/
def Obligations.DecodeReadsTheSpecsWords : Prop :=
  decode 0x32800004 = .instr (.bne true 4) ∧
  decode 0x126FFFFD = .instr (.bpne false .xcc true 0x7FFFD) ∧
  decode 0x0AFA3FFE = .instr (.brnz false true 8 0xFFFE) ∧
  decode 0x3D680004 = .instr (.fbpule true .fcc2 true 4) ∧
  decode 0x01000000 = .instr .nop ∧
  decode 0xD5E22009 = .instr (.casa 10 8 .asiReg 9) ∧
  decode 0x81AAB041 = .instr (.fmovdcc_xcc .g 0 1) ∧
  decode 0x8BAA04A3 = .instr (.fmovrsz 5 8 3) ∧
  decode 0x997AFE00 = .instr (.movrgez 12 11 (.imm 0x200)) ∧
  decode 0xC30A0000 = .instr (.ldxfsr 8 (.reg 0)) ∧
  decode 0xD4BA1109 = .instr (.stda 10 8 (.immAsi 0x88 9)) ∧
  decode 0x9F802010 = .instr (.sir 0x10) ∧
  decode 0x99902007 = .instr (.wrpr 12 0 (.imm 7)) ∧
  decode 0x9DE3BF40 = .instr (.save 14 14 (.imm 0x1F40)) ∧
  decode 0x95120009 = .instr (.taddcctv 10 8 (.reg 9))

/-- The illegal encodings among the in-scope opcodes raise illegal_instruction; those of privileged
opcodes raise privileged_opcode in nonprivileged mode (30_encoding.md R136; 46_register_windows.md
R310; 45_state_register_access.md R280, R289, R296, R297). A step at such a word, fetched, takes that
trap, whatever the reserved bits of the word hold (92_eei_decisions.md D28; log 14). -/
def Obligations.IllegalEncodingsTrap : Prop :=
  ∀ s : State, fetchFault s = none →
    let w := s.wordAt s.pc
    let op := (w.extractLsb' 30 2).toNat
    let rd := (w.extractLsb' 25 5).toNat
    let op2 := (w.extractLsb' 22 3).toNat
    let op3 := (w.extractLsb' 19 6).toNat
    let rs1 := (w.extractLsb' 14 5).toNat
    let i := w.getLsbD 13
    -- BPcc with cc0 = 1; BPr with bit 28 = 1 or a reserved rcond
    ((op = 0 ∧ op2 = 1 ∧ w.getLsbD 20 = true) ∨
      (op = 0 ∧ op2 = 3 ∧ (w.getLsbD 28 = true ∨ w.extractLsb' 25 3 = 0 ∨ w.extractLsb' 25 3 = 4)) ∨
      -- MOVr with a reserved rcond
      (op = 2 ∧ op3 = 0x2F ∧ (w.extractLsb' 10 3 = 0 ∨ w.extractLsb' 10 3 = 4)) ∨
      -- LDD, LDDA, STD, STDA with odd rd
      (op = 3 ∧ (op3 = 0x03 ∨ op3 = 0x13 ∨ op3 = 0x07 ∨ op3 = 0x17) ∧ rd % 2 = 1) ∨
      -- LDFSR's opcode with rd = 2..31
      (op = 3 ∧ op3 = 0x21 ∧ 2 ≤ rd) ∨
      -- RDASR with rs1 = 1, 7..14, 16..31
      (op = 2 ∧ op3 = 0x28 ∧ (rs1 = 1 ∨ (7 ≤ rs1 ∧ rs1 ≠ 15))) ∨
      -- WRASR with rd = 1, 4, 5, 7..14, 16..31, or rd = 15 with rs1 not 0 or i not 1
      (op = 2 ∧ op3 = 0x30 ∧
        (rd = 1 ∨ rd = 4 ∨ rd = 5 ∨ (7 ≤ rd ∧ rd ≠ 15) ∨ (rd = 15 ∧ (rs1 ≠ 0 ∨ i = false)))) →
      Sys2Proof.Machine.step s = .next (takeTrap .illegalInstruction s)) ∧
    -- SAVED's opcode with fcn = 2..31; RDPR with rs1 = 15 (FQ) or 16..30; WRPR with rd = 15..31; either
    -- of TPC, TNPC, TSTATE, TT at TL = 0
    ((op = 2 ∧ op3 = 0x31 ∧ 2 ≤ rd) ∨ (op = 2 ∧ op3 = 0x2A ∧ 15 ≤ rs1 ∧ rs1 ≤ 30) ∨
      (op = 2 ∧ op3 = 0x32 ∧ 15 ≤ rd) ∨ (op = 2 ∧ op3 = 0x2A ∧ rs1 ≤ 3 ∧ s.tl = 0) ∨
      (op = 2 ∧ op3 = 0x32 ∧ rd ≤ 3 ∧ s.tl = 0) →
      Sys2Proof.Machine.step s = .next (takeTrap (if s.priv then .illegalInstruction else .privilegedOpcode) s))

/-! ### The step -/

/-- When the word at the PC can be fetched and decodes to an instruction, a step is exec of that
instruction, and adds nothing to it; the instruction is well-formed. -/
def Obligations.StepRunsTheDecodedInstruction : Prop :=
  ∀ (s : State) (i : Instr), s.errorState = false → s.inText s.pc = true →
    s.codeExists s.pc = true → decode (s.wordAt s.pc) = .instr i →
    Sys2Proof.Machine.step s = exec i s ∧ i.wf = true

/-- Where no instruction can be fetched the step stops by name: in error_state it is stuck
(60_exceptions.md R375); outside the program text it is the program's end at the exit address and
else a fault (92_eei_decisions.md D19, D20; log 7). -/
def Obligations.StepStopsWithoutAnInstruction : Prop :=
  ∀ s : State,
    (s.errorState = true → step s = .fault .stuckInErrorState) ∧
    (s.errorState = false → s.inText s.pc = false →
      (s.launch.exit = some (s.maskAddr s.pc) → step s = .fault (.programEnd s.pc)) ∧
      (s.launch.exit ≠ some (s.maskAddr s.pc) → step s = .fault (.fetchOutsideText s.pc))) ∧
    (s.errorState = false → s.inText s.pc = true → s.codeExists s.pc = false →
      step s = .fault (.noMemoryAtAddress s.pc))

/-- Every step from a legal state that answers a next state answers a legal state: the window
registers stay in 0..NWINDOWS-1, TL stays at most MAXTL, the program counters and every TPC and TNPC
stay multiples of 4, the reserved fields stay zero, PSTATE.MM is never 3, memory keeps its canonical
form (10_state.md R24, R35, R38, R39, R40, R43, R44). -/
def Obligations.EveryStepKeepsTheLegalState : Prop :=
  ∀ s t : State, s.Legal → Sys2Proof.Machine.step s = .next t → t.Legal

/-- The state after power-on reset is legal. The values the spec does not give are the model's choice
(log 1, log 2, log 3). -/
def Obligations.ResetStateIsLegal : Prop := State.reset.Legal

/-- Power-on reset: TL = MAXTL, TT[MAXTL] = 0x001, PSTATE with MM 0, RED 1, PEF 1, AM 0, PRIV 1, IE 0,
AG 1, TICK.NPT = 1, PC = RSTVaddr + 0x20 and nPC = RSTVaddr + 0x24 (70_reset_and_hazards.md R423). -/
def Obligations.PowerOnResetValues : Prop :=
  State.reset.tl.toNat = State.reset.params.maxtl ∧
  (State.reset.trapRegs State.reset.tl).tt = 0x001 ∧
  State.reset.pstate.extractLsb' 0 8 = 0x35 ∧
  State.reset.npt = true ∧
  State.reset.pc = State.reset.params.rstvaddr + 0x20 ∧
  State.reset.npc = State.reset.params.rstvaddr + 0x24

/-- Nonprivileged code enters privileged mode only by a trap: every step in nonprivileged mode either
takes a trap or leaves PSTATE, TL, the trap stack, TBA, PIL, WSTATE, CLEANWIN, OTHERWIN, TICK.NPT,
SIR_enable and error_state as they were (60_exceptions.md R383, R384). -/
def Obligations.OnlyATrapEntersPrivilegedMode : Prop :=
  ∀ s t : State, s.priv = false → Sys2Proof.Machine.step s = .next t →
    (∃ e : Exc, t = takeTrap e s) ∨
    (t.pstate = s.pstate ∧ t.tl = s.tl ∧ t.trapStack = s.trapStack ∧ t.tba = s.tba ∧ t.pil = s.pil ∧
      t.wstate = s.wstate ∧ t.cleanwin = s.cleanwin ∧ t.otherwin = s.otherwin ∧ t.npt = s.npt ∧
      t.sirEnable = s.sirEnable ∧ t.errorState = s.errorState)

/-- No step changes a byte of the program text, the launch contract, the implementation's parameters
or SIR_enable (20_memory.md R100; 92_eei_decisions.md D10, D27). -/
def Obligations.ProgramTextNeverChanges : Prop :=
  ∀ s t : State, Sys2Proof.Machine.step s = .next t →
    t.launch = s.launch ∧ t.params = s.params ∧ t.sirEnable = s.sirEnable ∧
      ∀ a : Nat, inRanges s.launch.text a = true → readByte t.mem a = readByte s.mem a

/-! ### Registers and memory -/

/-- The integer register file: r[0] reads as zero and a write to it has no effect; a write to another
register is read back, changes the one cell it names, and changes nothing else; PSTATE.AG selects the
globals; the ins, locals and outs of the current window are cells of their own (10_state.md R21, R22,
R23). -/
def Obligations.IntegerRegisterFile : Prop :=
  ∀ (s : State) (r : Reg) (v : Word),
    s.readReg 0 = 0 ∧ s.writeReg 0 v = s ∧
    (r ≠ 0 → (s.writeReg r v).readReg r = v) ∧
    (∀ c, s.cellOf r = some c → s.readReg r = s.cell c ∧ (s.writeReg r v).cell c = v) ∧
    (∀ c, s.cellOf r ≠ some c → (s.writeReg r v).cell c = s.cell c) ∧
    (s.writeReg r v = { s with
      globals := (s.writeReg r v).globals
      altGlobals := (s.writeReg r v).altGlobals
      locals := (s.writeReg r v).locals
      ins := (s.writeReg r v).ins }) ∧
    (∀ r', s.params.wf → r ≠ r' → r ≠ 0 →
      s.cellOf r ≠ s.cellOf r')

/-- The outs of window w are the same storage as the ins of window w + 1 modulo NWINDOWS, and the locals
of a window are apart from every other window's (10_state.md R23). -/
def Obligations.OutsAreTheNextWindowsIns : Prop :=
  ∀ (s : State) (w : BitVec 5) (i : BitVec 3), s.params.wf →
    let inWindow (x : BitVec 5) : State := { s with cwp := x }
    let next : BitVec 5 := BitVec.ofNat 5 ((w.toNat + 1) % s.params.nwindows)
    let out : Reg := 0b01#2 ++ i
    let loc : Reg := 0b10#2 ++ i
    let inn : Reg := 0b11#2 ++ i
    (inWindow w).cellOf out = (inWindow next).cellOf inn ∧
    (inWindow w).readReg out = (inWindow next).readReg inn ∧
    (inWindow w).cellOf loc ≠ none ∧
    (∀ x : BitVec 5, x ≠ w → ∀ r : Reg, (inWindow w).cellOf loc ≠ (inWindow x).cellOf r) ∧
    next.toNat < s.params.nwindows ∧ next ≠ w

/-- Singles, doubles and quads are one storage: f32[n] is F[n], f64[n] is F[n] above F[n+1], f128[n] is
F[n] to F[n+3]; a write is read back and changes no other word; a single field is the register
number, a double field's bit 0 is bit 5 of it, and a quad field with bit 1 set is none (10_state.md
R33, R34). -/
def Obligations.FloatRegistersAreOneStorage : Prop :=
  (∀ (s : State) (n : BitVec 6) (v : BitVec 32),
    s.f32 n = s.fWord n ∧ (s.setF32 n v).f32 n = v ∧
    s.setF32 n v = { s with f := (s.setF32 n v).f } ∧
    ∀ m, m ≠ n → (s.setF32 n v).fWord m = s.fWord m) ∧
  (∀ field : Reg, (singleReg field).toNat = field.toNat) ∧
  (∀ (s : State) (n : BitVec 6), n.extractLsb' 0 1 = 0 → ∀ v : BitVec 64,
    s.f64 n = (s.fWord n ++ s.fWord (n + 1) : BitVec 64) ∧ (s.setF64 n v).f64 n = v ∧
    s.setF64 n v = { s with f := (s.setF64 n v).f } ∧
    ∀ m, m ≠ n → m ≠ n + 1 → (s.setF64 n v).fWord m = s.fWord m) ∧
  (∀ (s : State) (n : BitVec 6), n.extractLsb' 0 2 = 0 → ∀ v : BitVec 128,
    s.f128 n = (s.f64 n ++ s.f64 (n + 2) : BitVec 128) ∧ (s.setF128 n v).f128 n = v ∧
    s.setF128 n v = { s with f := (s.setF128 n v).f } ∧
    ∀ m, m.extractLsb' 2 4 ≠ n.extractLsb' 2 4 → (s.setF128 n v).fWord m = s.fWord m) ∧
  (∀ field : Reg,
    (doubleReg field).toNat = 2 * (field.toNat / 2) + 32 * (field.toNat % 2) ∧
    (quadFieldInvalid field = false ↔ (doubleReg field).toNat % 4 = 0))

/-- Memory is an array of bytes: stored bytes are read back, every other byte stays, a write keeps the
canonical form, a byte that no entry lists reads as the initial byte, and two canonical memories that
read alike are equal (20_memory.md R85; log 6). -/
def Obligations.MemoryIsAnArrayOfBytes : Prop :=
  ∀ (m : Memory) (a : Nat) (bytes : List Byte),
    MemWritten m (writeBytes m a bytes) a bytes ∧
    readBytes (writeBytes m a bytes) a bytes.length = bytes ∧
    (Memory.wf m = true → a + bytes.length ≤ 2 ^ 64 → Memory.wf (writeBytes m a bytes) = true) ∧
    (∀ x, (∀ p ∈ m, p.1 ≠ x) → readByte m x = initialByte) ∧
    (∀ m' : Memory, Memory.wf m = true → Memory.wf m' = true →
      (∀ x, readByte m x = readByte m' x) → m = m')

/-- Byte order: big-endian puts the most significant byte at the lowest address, little-endian the
least significant; reading back what was stored gives the low n bytes of the value (20_memory.md R84,
R85). -/
def Obligations.ByteOrderOfAValue : Prop :=
  ∀ (little : Bool) (n v : Nat),
    (valueBytes little n v).length = n ∧
    bytesValue little (valueBytes little n v) = v % 256 ^ n ∧
    ∀ k, k < n → (valueBytes little n v)[k]?
      = some (BitVec.ofNat 8 (v / 256 ^ (if little then k else n - 1 - k)))

/-! ### Branches -/

/-- The condition tables by their codes: the integer conditions on N Z V C, the floating-point
conditions on fcc (E = 0, L = 1, G = 2, U = 3), the register conditions on the signed value
(30_encoding.md R134). -/
def Obligations.ConditionTables : Prop :=
  (∀ n z v c : Bool,
    let t (k : BitVec 4) := icondTest (ICond.ofBits k) ⟨n, z, v, c⟩
    t 0b1000 = true ∧ t 0b0000 = false ∧ t 0b1001 = !z ∧ t 0b0001 = z ∧
    t 0b1010 = !(z || (n != v)) ∧ t 0b0010 = (z || (n != v)) ∧ t 0b1011 = !(n != v) ∧
    t 0b0011 = (n != v) ∧ t 0b1100 = !(c || z) ∧ t 0b0100 = (c || z) ∧ t 0b1101 = !c ∧
    t 0b0101 = c ∧ t 0b1110 = !n ∧ t 0b0110 = n ∧ t 0b1111 = !v ∧ t 0b0111 = v) ∧
  (∀ fcc : BitVec 2,
    let t (k : BitVec 4) := fcondTest (FCond.ofBits k) fcc
    t 0b1000 = true ∧ t 0b0000 = false ∧ t 0b0111 = decide (fcc = 3) ∧ t 0b1111 = decide (fcc ≠ 3) ∧
    t 0b0110 = decide (fcc = 2) ∧ t 0b1110 = decide (fcc ≠ 2) ∧
    t 0b0101 = decide (fcc = 2 ∨ fcc = 3) ∧ t 0b1101 = decide (fcc = 0 ∨ fcc = 1) ∧
    t 0b0100 = decide (fcc = 1) ∧ t 0b1100 = decide (fcc ≠ 1) ∧
    t 0b0011 = decide (fcc = 1 ∨ fcc = 3) ∧ t 0b1011 = decide (fcc = 0 ∨ fcc = 2) ∧
    t 0b0010 = decide (fcc = 1 ∨ fcc = 2) ∧ t 0b1010 = decide (fcc = 0 ∨ fcc = 3) ∧
    t 0b0001 = decide (fcc ≠ 0) ∧ t 0b1001 = decide (fcc = 0)) ∧
  (∀ v : Word,
    (RCond.ofBits 0 = none ∧ RCond.ofBits 4 = none) ∧
    (RCond.ofBits 1).map (rcondTest · v) = some (decide (v = 0)) ∧
    (RCond.ofBits 2).map (rcondTest · v) = some (decide (v = 0 ∨ v.msb = true)) ∧
    (RCond.ofBits 3).map (rcondTest · v) = some v.msb ∧
    (RCond.ofBits 5).map (rcondTest · v) = some (decide (v ≠ 0)) ∧
    (RCond.ofBits 6).map (rcondTest · v) = some (decide (v ≠ 0 ∧ v.msb = false)) ∧
    (RCond.ofBits 7).map (rcondTest · v) = some (!v.msb))

/-- Bicc on icc (16 rows), BPcc on icc or xcc (16 rows), BPr on all 64 bits of x[rs1] (6 rows)
complete, go where the table of R161 says and change nothing else; the prediction bit has no effect
(40_branches.md R161, R163, R164, R165; 10_state.md R26). -/
def Obligations.IntegerBranches : Prop :=
  ∀ s : State, s.branchInDelaySlot = false →
    (∀ (c : ICond) (a : Bool) (d : BitVec 22), ∃ t, exec (mkBicc c a d) s = .next t ∧
      BranchRow s t (decide (c = .a)) (decide (c = .n)) a (icondTest c (ccrIcc s.ccr))
        (s.maskAddr (s.pc + 4 * d.signExtend 64))) ∧
    (∀ (c : ICond) (a : Bool) (cc : CcSel) (p : Bool) (d : BitVec 19), ∃ t,
      exec (mkBpcc c a cc p d) s = .next t ∧
      BranchRow s t (decide (c = .a)) (decide (c = .n)) a
        (icondTest c (if cc = .xcc then ccrXcc s.ccr else ccrIcc s.ccr))
        (s.maskAddr (s.pc + 4 * d.signExtend 64))) ∧
    (∀ (c : RCond) (a p : Bool) (rs1 : Reg) (d : BitVec 16), ∃ t,
      exec (mkBpr c a p rs1 d) s = .next t ∧
      BranchRow s t false false a (rcondTest c (s.readReg rs1))
        (s.maskAddr (s.pc + 4 * d.signExtend 64)))

/-- FBfcc on fcc0 (16 rows) and FBPfcc on fcc0 to fcc3 (16 rows) complete when floating point is
enabled, go where the table of R161 says and change nothing else (40_branches.md R161, R166, R167). -/
def Obligations.FloatingBranches : Prop :=
  ∀ s : State, s.branchInDelaySlot = false → s.fpEnabled = true →
    (∀ (c : FCond) (a : Bool) (d : BitVec 22), ∃ t, exec (mkFbfcc c a d) s = .next t ∧
      BranchRow s t (decide (c = .a)) (decide (c = .n)) a (fcondTest c (s.fsr.extractLsb' 10 2))
        (s.maskAddr (s.pc + 4 * d.signExtend 64))) ∧
    (∀ (c : FCond) (a : Bool) (cc : FccSel) (p : Bool) (d : BitVec 19), ∃ t,
      exec (mkFbpfcc c a cc p d) s = .next t ∧
      BranchRow s t (decide (c = .a)) (decide (c = .n)) a (fcondTest c (fsrFcc s.fsr cc))
        (s.maskAddr (s.pc + 4 * d.signExtend 64)))

/-- A branch whose delay slot holds a branch is refused by name, whatever its condition and annul bit;
a floating-point branch first checks that floating point is enabled. The refusal is the spec's
decision D29 (40_branches.md R162; log 13). -/
def Obligations.BranchInADelaySlotIsRefused : Prop :=
  ∀ s : State, s.branchInDelaySlot = true →
    (∀ c a d, exec (mkBicc c a d) s = .refused .branchInDelaySlot) ∧
    (∀ c a cc p d, exec (mkBpcc c a cc p d) s = .refused .branchInDelaySlot) ∧
    (∀ c a p rs1 d, exec (mkBpr c a p rs1 d) s = .refused .branchInDelaySlot) ∧
    (s.fpEnabled = true → ∀ c a d, exec (mkFbfcc c a d) s = .refused .branchInDelaySlot) ∧
    (s.fpEnabled = true → ∀ c a cc p d,
      exec (mkFbpfcc c a cc p d) s = .refused .branchInDelaySlot)

/-- An instruction that is no branch and answers a next state either takes a trap from the state it
started in, so that it has changed nothing itself, or ends with (pc, npc) = (npc, npc + 4)
(10_state.md R25; 60_exceptions.md R363 "precise"). -/
def Obligations.NonBranchesAdvanceOrTrap : Prop :=
  ∀ (i : Instr) (s t : State), ¬ isBranchInstr i → exec i s = .next t →
    (∃ e : Exc, t = takeTrap e s) ∨ (t.pc = s.npc ∧ t.npc = s.npc + 4)

/-! ### Atomics -/

/-- CASA and CASXA complete: the old value is compared with the low bytes of x[rs2]; when equal, the
low bytes of x[rd] are stored at x[rs1]; in both cases the old value goes zero-extended to x[rd]; no
other register and no other byte changes (41_compare_and_swap.md R180, R181, R182). -/
def Obligations.CompareAndSwap : Prop :=
  ∀ (s : State) (rd rs1 rs2 : Reg) (asi : CasAsi),
    let a := s.casAddr rs1
    let k := s.casAsi asi
    s.asiUsable k → nofaultAsi k = false →
    (s.storable a 4 → ∃ m t, exec (.casa rd rs1 asi rs2) s = .next t ∧
      (s.valueAt k a 4 = (s.readReg rs2).toNat % 2 ^ 32 →
        MemWritten s.mem m a.toNat (valueBytes (littleAsi k) 4 (s.readReg rd).toNat)) ∧
      (s.valueAt k a 4 ≠ (s.readReg rs2).toNat % 2 ^ 32 → m = s.mem) ∧
      WroteInts { s with mem := m } t [(s.cellOf rd, BitVec.ofNat 64 (s.valueAt k a 4))]) ∧
    (s.storable a 8 → ∃ m t, exec (.casxa rd rs1 asi rs2) s = .next t ∧
      (s.valueAt k a 8 = (s.readReg rs2).toNat →
        MemWritten s.mem m a.toNat (valueBytes (littleAsi k) 8 (s.readReg rd).toNat)) ∧
      (s.valueAt k a 8 ≠ (s.readReg rs2).toNat → m = s.mem) ∧
      WroteInts { s with mem := m } t [(s.cellOf rd, BitVec.ofNat 64 (s.valueAt k a 8))])

/-- SWAP completes: the word at the address goes zero-extended to x[rd] and the low word of x[rd] to
memory; nothing else changes (41_compare_and_swap.md R184). -/
def Obligations.SwapExchanges : Prop :=
  ∀ (s : State) (rd rs1 : Reg) (op2 : Operand2),
    let a := s.effAddr rs1 op2
    let k := s.implicitAsi
    s.storable a 4 → ∃ m t, exec (.swap rd rs1 op2) s = .next t ∧
      MemWritten s.mem m a.toNat (valueBytes (littleAsi k) 4 (s.readReg rd).toNat) ∧
      WroteInts { s with mem := m } t [(s.cellOf rd, BitVec.ofNat 64 (s.valueAt k a 4))]

/-! ### Floating-point moves -/

/-- FMOVScc, FMOVDcc, FMOVQcc on fcc0 to fcc3, icc and xcc (18 rows) and FMOVRS, FMOVRD, FMOVRQ on the
six register conditions (18 rows), the test being on all 64 bits of x[rs1], complete: cexc and ftt are
cleared; when the condition holds the register is copied and its half marked dirty; when it does not,
nothing else changes (42_fp_move_and_fsr.md R201, R202, R204, R217 to R222). That FPRS gets no dirty
bit but that one, and none when the move does not occur, is the model's choice: 10_state.md R30 lets
hardware set the bits pessimistically (log 16). -/
def Obligations.FloatingMoves : Prop :=
  ∀ (s : State) (size : FpSize) (rd rs2 : Reg), s.fpEnabled = true →
    (size = .quad → quadFieldInvalid rd = false ∧ quadFieldInvalid rs2 = false) →
    let s' : State := { s with fsr := s.fsr &&& 0xFFFFFFFFFFFE3FE0 }
    let moves (i : Instr) (test : Bool) : Prop := ∃ t, exec i s = .next t ∧
      (test = true → MovedFloat size s' t rd rs2) ∧
      (test = false → t = s'.nextWithMem s.mem)
    (∀ cc c, moves (mkFmovFcc size cc c rd rs2) (fcondTest c (fsrFcc s.fsr cc))) ∧
    (∀ cc c, moves (mkFmovIcc size cc c rd rs2)
      (icondTest c (if cc = .xcc then ccrXcc s.ccr else ccrIcc s.ccr))) ∧
    (∀ c rs1, moves (mkFmovr size c rd rs1 rs2) (rcondTest c (s.readReg rs1)))

/-- After any FMOVcc or FMOVr that does not trap FSR.cexc = 0 and FSR.ftt = 0, whether or not the move
occurs, and FSR.aexc is unchanged (42_fp_move_and_fsr.md R204). -/
def Obligations.FmovClearsCexcAndFtt : Prop :=
  ∀ (s t : State) (size : FpSize) (rd rs2 : Reg),
    let cleared : Prop := (∃ e, t = takeTrap e s) ∨
      (fsrCexc t.fsr = 0 ∧ fsrFtt t.fsr = 0 ∧ fsrAexc t.fsr = fsrAexc s.fsr)
    (∀ cc c, exec (mkFmovFcc size cc c rd rs2) s = .next t → cleared) ∧
    (∀ cc c, exec (mkFmovIcc size cc c rd rs2) s = .next t → cleared) ∧
    (∀ c rs1, exec (mkFmovr size c rd rs1 rs2) s = .next t → cleared)

/-- Every floating-point instruction raises fp_disabled when PSTATE.PEF = 0 or FPRS.FEF = 0; RDFPRS and
WRFPRS do not (42_fp_move_and_fsr.md R200). -/
def Obligations.FpDisabledTraps : Prop :=
  ∀ s : State, s.pstate.getLsbD 4 = false ∨ s.fprs.getLsbD 2 = false →
    let traps (i : Instr) : Prop := exec i s = .next (takeTrap .fpDisabled s)
    (∀ size cc c rd rs2, traps (mkFmovFcc size cc c rd rs2)) ∧
    (∀ size cc c rd rs2, traps (mkFmovIcc size cc c rd rs2)) ∧
    (∀ size c rd rs1 rs2, traps (mkFmovr size c rd rs1 rs2)) ∧
    (∀ c a d, traps (mkFbfcc c a d)) ∧ (∀ c a cc p d, traps (mkFbpfcc c a cc p d)) ∧
    (∀ rd rs1 op2, traps (.ldf rd rs1 op2) ∧ traps (.lddf rd rs1 op2) ∧ traps (.ldqf rd rs1 op2) ∧
      traps (.ldfsr rs1 op2) ∧ traps (.ldxfsr rs1 op2)) ∧
    (∀ rd, ∃ t, exec (.rdfprs rd) s = .next t ∧ t.tl = s.tl ∧ t.errorState = s.errorState) ∧
    (∀ rs1 op2, ∃ t, exec (.wrfprs rs1 op2) s = .next t ∧ t.tl = s.tl ∧
      t.errorState = s.errorState)

/-- A quad register field with bit 1 set names no register: FMOVQcc, FMOVRQ and LDQF raise
fp_exception_other with FSR.ftt = 6, after the checks of higher priority (42_fp_move_and_fsr.md R201,
R202, R219; 43_loads.md R242; 10_state.md R34). -/
def Obligations.InvalidQuadFieldTraps : Prop :=
  ∀ (s : State) (rd rs2 : Reg), s.fpEnabled = true →
    let t := takeTrap (.fpExceptionOther 6) s
    (s.tl.toNat < s.params.maxtl → fsrFtt t.fsr = 6) ∧
    (quadFieldInvalid rd = true ∨ quadFieldInvalid rs2 = true →
      (∀ cc c, exec (mkFmovFcc .quad cc c rd rs2) s = .next t) ∧
      (∀ cc c, exec (mkFmovIcc .quad cc c rd rs2) s = .next t) ∧
      (∀ c rs1, exec (mkFmovr .quad c rd rs1 rs2) s = .next t)) ∧
    (quadFieldInvalid rd = true → ∀ rs1 op2, (s.effAddr rs1 op2).toNat % 16 = 0 →
      exec (.ldqf rd rs1 op2) s = .next t)

/-! ### Loads -/

/-- LDF, LDDF, LDQF complete: the bytes at the address go to the register the field names, in the byte
order of the implicit ASI, and the dirty bit of its half is set; nothing else changes. A little-endian
LDQF is refused, its arrangement being unknown (43_loads.md R240, R241, R242, R245). That the other
dirty bit of FPRS stays is the model's choice: 10_state.md R30 lets hardware set the bits
pessimistically (log 16). -/
def Obligations.FloatingLoads : Prop :=
  ∀ (s : State) (rd rs1 : Reg) (op2 : Operand2), s.fpEnabled = true →
    let a := s.effAddr rs1 op2
    let k := s.implicitAsi
    let n := doubleReg rd
    let dirty : State := { s with fprs := s.fprs ||| (if n.toNat < 32 then 1 else 2) }
    (s.loadable a 4 → ∃ t, exec (.ldf rd rs1 op2) s = .next t ∧
      WroteFloats { s with fprs := s.fprs ||| 1 } t
        [(singleReg rd, BitVec.ofNat 32 (s.valueAt k a 4))]) ∧
    (s.loadable a 8 → ∃ t, exec (.lddf rd rs1 op2) s = .next t ∧
      WroteFloats dirty t
        [(n, BitVec.ofNat 32 (s.valueAt k a 8 / 2 ^ 32)),
          (n + 1, BitVec.ofNat 32 (s.valueAt k a 8))]) ∧
    (quadFieldInvalid rd = false → (a.toNat % 16 = 0 → littleAsi k = true →
        exec (.ldqf rd rs1 op2) s = .refused .littleEndianQuadLoad) ∧
      (s.loadable a 16 → littleAsi k = false → ∃ t, exec (.ldqf rd rs1 op2) s = .next t ∧
        WroteFloats dirty t
          [(n, BitVec.ofNat 32 (beValue (readBytes s.mem a.toNat 4))),
            (n + 1, BitVec.ofNat 32 (beValue (readBytes s.mem (a.toNat + 4) 4))),
            (n + 2, BitVec.ofNat 32 (beValue (readBytes s.mem (a.toNat + 8) 4))),
            (n + 3, BitVec.ofNat 32 (beValue (readBytes s.mem (a.toNat + 12) 4)))]))

/-- LDFSR and LDXFSR of a value with zeros in the reserved fields of FSR complete and change FSR only:
RD, TEM, NS, fcc0, aexc and cexc come from memory, ver and ftt stay, the reserved bits are zero; the
upper 32 bits are unaffected by LDFSR, and by LDXFSR fcc3, fcc2, fcc1 come from memory (43_loads.md
R243, R244; 10_state.md R35, R36). That qne stays is the model's choice (log 12). A value with a one in
a reserved field is refused (00_scope.md R4; 92_eei_decisions.md D22; log 11). -/
def Obligations.FsrLoads : Prop :=
  ∀ (s : State) (rs1 : Reg) (op2 : Operand2), s.fpEnabled = true →
    let a := s.effAddr rs1 op2
    let k := s.implicitAsi
    let clean (w : Word) : Prop := w.extractLsb' 38 26 = 0 ∧ w.extractLsb' 28 2 = 0 ∧
      w.extractLsb' 20 2 = 0 ∧ w.getLsbD 12 = false
    let low (t : State) (w : Word) : Prop :=
      fsrRd t.fsr = fsrRd w ∧ fsrTem t.fsr = fsrTem w ∧ t.fsr.getLsbD 22 = w.getLsbD 22 ∧
      fsrFcc t.fsr .fcc0 = fsrFcc w .fcc0 ∧ fsrAexc t.fsr = fsrAexc w ∧ fsrCexc t.fsr = fsrCexc w ∧
      t.fsr.extractLsb' 17 3 = s.fsr.extractLsb' 17 3 ∧ fsrFtt t.fsr = fsrFtt s.fsr ∧
      t.fsr.getLsbD 13 = s.fsr.getLsbD 13 ∧
      t.fsr.extractLsb' 28 2 = 0 ∧ t.fsr.extractLsb' 20 2 = 0 ∧ t.fsr.getLsbD 12 = false
    (s.loadable a 4 →
      let w : Word := BitVec.ofNat 64 (s.valueAt k a 4)
      (clean w → ∃ t, exec (.ldfsr rs1 op2) s = .next t ∧
        t = { s with pc := s.npc, npc := s.npc + 4, fsr := t.fsr } ∧ low t w ∧
        t.fsr.extractLsb' 32 32 = s.fsr.extractLsb' 32 32) ∧
      (¬ clean w → exec (.ldfsr rs1 op2) s = .refused .reservedFieldWritten)) ∧
    (s.loadable a 8 →
      let d : Word := BitVec.ofNat 64 (s.valueAt k a 8)
      (clean d → ∃ t, exec (.ldxfsr rs1 op2) s = .next t ∧
        t = { s with pc := s.npc, npc := s.npc + 4, fsr := t.fsr } ∧ low t d ∧
        t.fsr.extractLsb' 32 6 = d.extractLsb' 32 6 ∧ t.fsr.extractLsb' 38 26 = 0) ∧
      (¬ clean d → exec (.ldxfsr rs1 op2) s = .refused .reservedFieldWritten))

/-- LDD and LDDA complete: in both byte orders the even register receives the word at the lower
address and the odd one the word at the address plus 4, each in the byte order of the ASI on its own
and zero-extended; nothing else changes (20_memory.md R87; 43_loads.md R246, R247). -/
def Obligations.PairLoads : Prop :=
  ∀ (s : State) (rd rs1 : Reg), rd.getLsbD 0 = false →
    let loads (i : Instr) (k : BitVec 8) (a : Word) : Prop :=
      ∃ t, exec i s = .next t ∧
        WroteInts s t
          [(s.cellOf rd, BitVec.ofNat 64 (bytesValue (littleAsi k) (readBytes s.mem a.toNat 4))),
            (s.cellOf (rd + 1),
              BitVec.ofNat 64 (bytesValue (littleAsi k) (readBytes s.mem (a.toNat + 4) 4)))]
    (∀ op2, s.loadable (s.effAddr rs1 op2) 8 →
      loads (.ldd rd rs1 op2) s.implicitAsi (s.effAddr rs1 op2)) ∧
    (∀ alt, s.loadable (s.altAddr rs1 alt) 8 → s.asiUsable (s.altAsi alt) →
      loads (.ldda rd rs1 alt) (s.altAsi alt) (s.altAddr rs1 alt))

/-! ### Stores -/

/-- STB, STH, STW, STX complete: the low 1, 2, 4 or 8 bytes of x[rd] are stored at the address in the
byte order of the implicit ASI; no register, no flag and no other byte changes (47_stores.md R330,
R333, R334, R335, R336). -/
def Obligations.PlainStores : Prop :=
  ∀ (s : State) (rd rs1 : Reg) (op2 : Operand2),
    let a := s.effAddr rs1 op2
    let stores (i : Instr) (n : Nat) : Prop :=
      s.storable a n → ∃ m, exec i s = .next (s.nextWithMem m) ∧
        MemWritten s.mem m a.toNat (valueBytes (littleAsi s.implicitAsi) n (s.readReg rd).toNat)
    stores (.stb rd rs1 op2) 1 ∧ stores (.sth rd rs1 op2) 2 ∧ stores (.stw rd rs1 op2) 4 ∧
      stores (.stx rd rs1 op2) 8

/-- STBA, STHA, STWA, STXA complete likewise, in the byte order of the ASI the instruction names,
whatever PSTATE.CLE holds (47_stores.md R330, R338, R341, R342, R343; 20_memory.md R82). -/
def Obligations.AlternateStores : Prop :=
  ∀ (s : State) (rd rs1 : Reg) (alt : AltOperand),
    let a := s.altAddr rs1 alt
    let k := s.altAsi alt
    let stores (i : Instr) (n : Nat) : Prop :=
      s.storable a n → s.asiUsable k → nofaultAsi k = false →
        ∃ m, exec i s = .next (s.nextWithMem m) ∧
          MemWritten s.mem m a.toNat (valueBytes (littleAsi k) n (s.readReg rd).toNat)
    stores (.stba rd rs1 alt) 1 ∧ stores (.stha rd rs1 alt) 2 ∧ stores (.stwa rd rs1 alt) 4 ∧
      stores (.stxa rd rs1 alt) 8

/-- STD and STDA complete: two 32-bit stores, each in the byte order of the ASI on its own, the low
word of the even register at the address and that of the odd one at the address plus 4; nothing else
changes (20_memory.md R88; 47_stores.md R337, R339). -/
def Obligations.PairStores : Prop :=
  ∀ (s : State) (rd rs1 : Reg), rd.getLsbD 0 = false →
    let stores (i : Instr) (k : BitVec 8) (a : Word) : Prop :=
      ∃ m, exec i s = .next (s.nextWithMem m) ∧
        MemWritten s.mem m a.toNat
          (valueBytes (littleAsi k) 4 (s.readReg rd).toNat ++
            valueBytes (littleAsi k) 4 (s.readReg (rd + 1)).toNat)
    (∀ op2, s.storable (s.effAddr rs1 op2) 8 →
      stores (.std rd rs1 op2) s.implicitAsi (s.effAddr rs1 op2)) ∧
    (∀ alt, s.storable (s.altAddr rs1 alt) 8 → s.asiUsable (s.altAsi alt) →
      nofaultAsi (s.altAsi alt) = false →
      stores (.stda rd rs1 alt) (s.altAsi alt) (s.altAddr rs1 alt))

/-- A misaligned access raises mem_address_not_aligned and performs no part of the access; an LDDF at
a multiple of 4 that is no multiple of 8 raises LDDF_mem_address_not_aligned, an LDQF at a multiple of
4 that is no multiple of 16 LDQF_mem_address_not_aligned (20_memory.md R90; 43_loads.md R240 to R247;
47_stores.md R330; 41_compare_and_swap.md R180, R184). -/
def Obligations.MisalignedAccessesTrap : Prop :=
  ∀ (s : State) (rd rs1 : Reg),
    let traps (i : Instr) (e : Exc) : Prop := exec i s = .next (takeTrap e s)
    (∀ op2, let a := (s.effAddr rs1 op2).toNat
      (a % 2 ≠ 0 → traps (.sth rd rs1 op2) .memAddressNotAligned) ∧
      (a % 4 ≠ 0 → traps (.stw rd rs1 op2) .memAddressNotAligned ∧
        traps (.swap rd rs1 op2) .memAddressNotAligned) ∧
      (a % 8 ≠ 0 → traps (.stx rd rs1 op2) .memAddressNotAligned) ∧
      (a % 8 ≠ 0 → rd.getLsbD 0 = false → traps (.std rd rs1 op2) .memAddressNotAligned ∧
        traps (.ldd rd rs1 op2) .memAddressNotAligned) ∧
      (s.fpEnabled = true → a % 4 ≠ 0 → traps (.ldf rd rs1 op2) .memAddressNotAligned ∧
        traps (.lddf rd rs1 op2) .memAddressNotAligned ∧
        traps (.ldqf rd rs1 op2) .memAddressNotAligned ∧
        traps (.ldfsr rs1 op2) .memAddressNotAligned) ∧
      (s.fpEnabled = true → a % 8 ≠ 0 → traps (.ldxfsr rs1 op2) .memAddressNotAligned) ∧
      (s.fpEnabled = true → a % 4 = 0 → a % 8 ≠ 0 →
        traps (.lddf rd rs1 op2) .lddfMemAddressNotAligned) ∧
      (s.fpEnabled = true → a % 4 = 0 → a % 16 ≠ 0 →
        traps (.ldqf rd rs1 op2) .ldqfMemAddressNotAligned)) ∧
    (∀ alt, let a := (s.altAddr rs1 alt).toNat
      (a % 2 ≠ 0 → traps (.stha rd rs1 alt) .memAddressNotAligned) ∧
      (a % 4 ≠ 0 → traps (.stwa rd rs1 alt) .memAddressNotAligned) ∧
      (a % 8 ≠ 0 → traps (.stxa rd rs1 alt) .memAddressNotAligned) ∧
      (a % 8 ≠ 0 → rd.getLsbD 0 = false → traps (.stda rd rs1 alt) .memAddressNotAligned ∧
        traps (.ldda rd rs1 alt) .memAddressNotAligned)) ∧
    (∀ asi rs2, let a := (s.casAddr rs1).toNat
      (a % 4 ≠ 0 → traps (.casa rd rs1 asi rs2) .memAddressNotAligned) ∧
      (a % 8 ≠ 0 → traps (.casxa rd rs1 asi rs2) .memAddressNotAligned))

/-- An aligned alternate-space access with a restricted ASI in nonprivileged mode raises
privileged_action; with an ASI outside the table of R81, or, for a store or atomic, a NOFAULT ASI, it
raises data_access_exception (20_memory.md R81, R83; 41_compare_and_swap.md R180; 43_loads.md R240;
47_stores.md R330; 92_eei_decisions.md D23). -/
def Obligations.AsiChecksTrap : Prop :=
  ∀ (s : State) (rd rs1 rs2 : Reg) (alt : AltOperand) (asi : CasAsi),
    let checks (i : Instr) (k : BitVec 8) (store : Bool) : Prop :=
      (k.toNat < 0x80 → s.priv = false → exec i s = .next (takeTrap .privilegedAction s)) ∧
      (0x80 ≤ k.toNat ∨ s.priv = true → knownAsi k = false ∨ (store = true ∧ nofaultAsi k = true) →
        exec i s = .next (takeTrap .dataAccessException s))
    let a := (s.altAddr rs1 alt).toNat
    let c := (s.casAddr rs1).toNat
    checks (.stba rd rs1 alt) (s.altAsi alt) true ∧
    (a % 2 = 0 → checks (.stha rd rs1 alt) (s.altAsi alt) true) ∧
    (a % 4 = 0 → checks (.stwa rd rs1 alt) (s.altAsi alt) true) ∧
    (a % 8 = 0 → checks (.stxa rd rs1 alt) (s.altAsi alt) true) ∧
    (a % 8 = 0 → rd.getLsbD 0 = false → checks (.stda rd rs1 alt) (s.altAsi alt) true ∧
      checks (.ldda rd rs1 alt) (s.altAsi alt) false) ∧
    (c % 4 = 0 → checks (.casa rd rs1 asi rs2) (s.casAsi asi) true) ∧
    (c % 8 = 0 → checks (.casxa rd rs1 asi rs2) (s.casAsi asi) true)

/-- An access that has passed its checks faults where there is no launch memory, and a store or atomic
faults where its bytes overlap the program text: STB, STH, STW, STX, STD, SWAP, the alternate forms,
CASA and CASXA; LDF, LDDF, LDQF, LDFSR, LDXFSR, LDD, LDDA (20_memory.md R100; 47_stores.md R330;
92_eei_decisions.md D12, D27). That the fault for missing memory comes before the one for program text
where both hold is the model's choice (log 20), and so is that CASA and CASXA fault on program text
even where the comparison fails (log 21). -/
def Obligations.AccessesOutsideMemoryFault : Prop :=
  ∀ (s : State) (rd rs1 rs2 : Reg) (op2 : Operand2) (alt : AltOperand) (asi : CasAsi),
    let a := s.effAddr rs1 op2
    let b := s.altAddr rs1 alt
    let c := s.casAddr rs1
    let loads (i : Instr) (x : Word) (n : Nat) : Prop :=
      s.hasMemory x n = false → exec i s = .fault (.noMemoryAtAddress x)
    let stores (i : Instr) (x : Word) (n : Nat) : Prop := x.toNat % n = 0 →
      (s.hasMemory x n = false → exec i s = .fault (.noMemoryAtAddress x)) ∧
      (s.hasMemory x n = true → s.touchesText x n = true →
        exec i s = .fault (.storeToProgramText x))
    stores (.stb rd rs1 op2) a 1 ∧ stores (.sth rd rs1 op2) a 2 ∧ stores (.stw rd rs1 op2) a 4 ∧
    stores (.stx rd rs1 op2) a 8 ∧ stores (.swap rd rs1 op2) a 4 ∧
    (s.asiUsable (s.altAsi alt) → nofaultAsi (s.altAsi alt) = false →
      stores (.stba rd rs1 alt) b 1 ∧ stores (.stha rd rs1 alt) b 2 ∧
      stores (.stwa rd rs1 alt) b 4 ∧ stores (.stxa rd rs1 alt) b 8 ∧
      (rd.getLsbD 0 = false → stores (.stda rd rs1 alt) b 8)) ∧
    (s.asiUsable (s.casAsi asi) → nofaultAsi (s.casAsi asi) = false →
      stores (.casa rd rs1 asi rs2) c 4 ∧ stores (.casxa rd rs1 asi rs2) c 8) ∧
    (rd.getLsbD 0 = false → stores (.std rd rs1 op2) a 8 ∧
      (a.toNat % 8 = 0 → loads (.ldd rd rs1 op2) a 8) ∧
      (s.asiUsable (s.altAsi alt) → b.toNat % 8 = 0 → loads (.ldda rd rs1 alt) b 8)) ∧
    (s.fpEnabled = true →
      (a.toNat % 4 = 0 → loads (.ldf rd rs1 op2) a 4 ∧ loads (.ldfsr rs1 op2) a 4) ∧
      (a.toNat % 8 = 0 → loads (.lddf rd rs1 op2) a 8 ∧ loads (.ldxfsr rs1 op2) a 8) ∧
      (a.toNat % 16 = 0 → quadFieldInvalid rd = false → littleAsi s.implicitAsi = false →
        loads (.ldqf rd rs1 op2) a 16))

/-- Store then load, across widths and byte orders: the words of a pair store are read back by a pair
load of the same byte order and byte-reversed by one of the other; read as eight bytes they are the
odd word above the even one in little-endian order and the even one above the odd one in big-endian
order; the halves of an eight-byte little-endian store are read by a little-endian pair load low half
first (47_stores.md R340; 20_memory.md R85, R87, R88). -/
def Obligations.StoreThenLoad : Prop :=
  ∀ (s : State) (k k' : BitVec 8) (a x y : Word), a.toNat % 8 = 0 →
    let e := x.toNat % 2 ^ 32
    let o := y.toNat % 2 ^ 32
    let swap4 (v : Nat) : Nat := leValue (beBytes 4 v)
    let t := s.storePair k a x y
    let u := s.storeValue k a 8 x.toNat
    (littleAsi k = littleAsi k' → t.valueAt k' a 4 = e ∧ t.valueAt k' (a + 4) 4 = o) ∧
    (littleAsi k ≠ littleAsi k' → t.valueAt k' a 4 = swap4 e ∧ t.valueAt k' (a + 4) 4 = swap4 o) ∧
    (littleAsi k = true → littleAsi k' = true → t.valueAt k' a 8 = o * 2 ^ 32 + e) ∧
    (littleAsi k = false → littleAsi k' = false → t.valueAt k' a 8 = e * 2 ^ 32 + o) ∧
    (littleAsi k = true → littleAsi k' = true →
      u.valueAt k' a 4 = e ∧ u.valueAt k' (a + 4) 4 = x.toNat / 2 ^ 32) ∧
    (littleAsi k = false → littleAsi k' = false →
      u.valueAt k' a 4 = x.toNat / 2 ^ 32 ∧ u.valueAt k' (a + 4) 4 = e)

/-! ### MOVr and NOP -/

/-- The six MOVr instructions complete: when the test on all 64 bits of x[rs1] holds x[rd] receives
x[rs2] or the sign-extended simm10, otherwise nothing is written; NOP writes nothing (44_movr_nop.md
R260 to R266, R268). -/
def Obligations.MovrMovesAndNopDoesNot : Prop :=
  (∀ (s : State) (c : RCond) (rd rs1 : Reg) (v : MovrOperand),
    let value := match v with
      | .reg rs2 => s.readReg rs2
      | .imm simm10 => simm10.signExtend 64
    ∃ t, exec (mkMovr c rd rs1 v) s = .next t ∧
      (rcondTest c (s.readReg rs1) = true → WroteInts s t [(s.cellOf rd, value)]) ∧
      (rcondTest c (s.readReg rs1) = false → t = s.nextWithMem s.mem)) ∧
  (∀ s : State, exec .nop s = .next (s.nextWithMem s.mem))

/-! ### State registers -/

/-- RDY, RDCCR, RDASI, RDPC and RDFPRS complete in every mode and write the register, zero-extended,
to x[rd] and nothing else; RDPC reads the address of the RDPC itself, its upper 32 bits zero when
PSTATE.AM = 1; a read of an ASR 16 to 31 raises illegal_instruction (45_state_register_access.md R281,
R282, R283, R284, R286, R288; 10_state.md R26). -/
def Obligations.StateRegisterReads : Prop :=
  ∀ (s : State) (rd : Reg),
    let reads (i : Instr) (v : Word) : Prop :=
      ∃ t, exec i s = .next t ∧ WroteInts s t [(s.cellOf rd, v)]
    reads (.rdy rd) (s.y.setWidth 64) ∧ reads (.rdccr rd) (s.ccr.setWidth 64) ∧
    reads (.rdasi rd) (s.asi.setWidth 64) ∧ reads (.rdfprs rd) (s.fprs.setWidth 64) ∧
    (s.am = false → reads (.rdpc rd) s.pc) ∧
    (s.am = true → reads (.rdpc rd) ((s.pc.extractLsb' 0 32).setWidth 64)) ∧
    ∀ rs1, exec (.rdasr16_31 rd rs1) s = .next (takeTrap .illegalInstruction s)

/-- WRY, WRCCR, WRASI and WRFPRS complete in every mode and write the low bits of x[rs1] xor operand2
to the register and nothing else; a write of an ASR 16 to 31 raises illegal_instruction
(45_state_register_access.md R287, R289, R290, R291, R292, R293, R294). -/
def Obligations.StateRegisterWrites : Prop :=
  ∀ (s : State) (rs1 : Reg) (op2 : Operand2),
    let v := s.readReg rs1 ^^^ s.operand2 op2
    let t : State := { s with pc := s.npc, npc := s.npc + 4 }
    exec (.wry rs1 op2) s = .next { t with y := v.extractLsb' 0 32 } ∧
    exec (.wrccr rs1 op2) s = .next { t with ccr := v.extractLsb' 0 8 } ∧
    exec (.wrasi rs1 op2) s = .next { t with asi := v.extractLsb' 0 8 } ∧
    exec (.wrfprs rs1 op2) s = .next { t with fprs := v.extractLsb' 0 3 } ∧
    ∀ rd, exec (.wrasr16_31 rd rs1 op2) s = .next (takeTrap .illegalInstruction s)

/-- RDTICK completes in privileged mode or with TICK.NPT = 0 and writes TICK, NPT in bit 63, to x[rd];
the counter it reads is free, and TICK holds it afterwards; in nonprivileged mode with NPT = 1 it
raises privileged_action (45_state_register_access.md R285; 70_reset_and_hazards.md R428; log 10). -/
def Obligations.TickReads : Prop :=
  ∀ (s : State) (rd : Reg),
    (s.priv = true ∨ s.tick.getLsbD 63 = false → ∃ t, exec (.rdtick rd) s = .next t ∧
      t.tick.getLsbD 63 = s.tick.getLsbD 63 ∧
      WroteInts { s with tick := t.tick, draws := t.draws } t [(s.cellOf rd, t.tick)]) ∧
    (s.priv = false → s.tick.getLsbD 63 = true →
      exec (.rdtick rd) s = .next (takeTrap .privilegedAction s))

/-- SIR in privileged mode or with SIR_enable = 1 takes the software-initiated reset; below MAXTL it
saves the interrupted state at TL + 1 with TT = 0x004, sets MM 0, RED 1, PEF 1, AM 0, PRIV 1, IE 0,
AG 1 and CLE to the old TLE, goes to RSTVaddr + 0x80 and leaves all else; at MAXTL it enters
error_state; otherwise it has no effect (45_state_register_access.md R295; 70_reset_and_hazards.md
R421, R422, R424). TLE afterwards is a free value (log 9). -/
def Obligations.SirResetsOrDoesNothing : Prop :=
  ∀ (s : State) (simm13 : BitVec 13), s.Legal →
    (s.priv = false → s.sirEnable = false → exec (.sir simm13) s = .next (s.nextWithMem s.mem)) ∧
    (s.priv = true ∨ s.sirEnable = true →
      (s.tl.toNat = s.params.maxtl → exec (.sir simm13) s = .next { s with errorState := true }) ∧
      (s.tl.toNat < s.params.maxtl → ∃ t, exec (.sir simm13) s = .next t ∧
        t = { s with
          tl := s.tl + 1
          trapStack := t.trapStack
          pstate := t.pstate
          pc := s.params.rstvaddr + 0x80
          npc := s.params.rstvaddr + 0x84
          draws := t.draws } ∧
        t.trapRegs t.tl = ⟨s.maskAddr s.pc, s.maskAddr s.npc,
          packTstate s.params s.ccr s.asi s.pstate s.cwp, 0x004⟩ ∧
        (∀ n, n ≠ t.tl → t.trapRegs n = s.trapRegs n) ∧
        t.pstate.extractLsb' 0 8 = 0x35 ∧ t.cle = s.tle))

/-! ### Privileged registers -/

/-- RDPR completes in privileged mode for every privileged register the machine has and writes it,
zero-extended, to x[rd] and nothing else; TPC, TNPC, TSTATE and TT are the elements at TL, for TL > 0;
a read of TICK advances the counter by a free amount (45_state_register_access.md R296; 10_state.md
R43, R44; log 10). -/
def Obligations.PrivilegedReads : Prop :=
  ∀ (s : State) (rd : Reg), s.Legal → s.priv = true →
    let reads (n : Reg) (v : Word) : Prop :=
      ∃ t, exec (.rdpr rd n) s = .next t ∧ WroteInts s t [(s.cellOf rd, v)]
    let top := s.trapRegs s.tl
    (s.tl ≠ 0 → reads 0 top.tpc ∧ reads 1 top.tnpc ∧ reads 2 top.tstate ∧
      reads 3 (top.tt.setWidth 64)) ∧
    (∃ t, exec (.rdpr rd 4) s = .next t ∧ t.tick.getLsbD 63 = s.tick.getLsbD 63 ∧
      WroteInts { s with tick := t.tick, draws := t.draws } t [(s.cellOf rd, t.tick)]) ∧
    reads 5 s.tba ∧ reads 6 (s.pstate.setWidth 64) ∧ reads 7 (s.tl.setWidth 64) ∧
    reads 8 (s.pil.setWidth 64) ∧ reads 9 (s.cwp.setWidth 64) ∧ reads 10 (s.cansave.setWidth 64) ∧
    reads 11 (s.canrestore.setWidth 64) ∧ reads 12 (s.cleanwin.setWidth 64) ∧
    reads 13 (s.otherwin.setWidth 64) ∧ reads 14 (s.wstate.setWidth 64) ∧
    reads 31 (s.params.verManuf ++ s.params.verImpl ++ s.params.verMask ++ 0#8
      ++ BitVec.ofNat 8 s.params.maxtl ++ 0#3 ++ BitVec.ofNat 5 (s.params.nwindows - 1) : BitVec 64)

/-- WRPR completes in privileged mode for every writable privileged register and a value it admits,
and writes x[rs1] xor operand2, restricted to the register's fields, to it and nothing else
(45_state_register_access.md R297; 10_state.md R38, R40, R41, R44). TPC and TNPC are written with bits
1:0 cleared and TBA with bits 14:0 cleared, as R297 says. A one for a reserved field of TSTATE is
refused (00_scope.md R4; 92_eei_decisions.md D22; log 11); that ones for TSTATE bits 19 and 18 are
dropped where PID1 and PID0 are not implemented is the model's choice (log 29). -/
def Obligations.PrivilegedWrites : Prop :=
  ∀ (s : State) (rs1 : Reg) (op2 : Operand2), s.Legal → s.priv = true →
    let v := s.readReg rs1 ^^^ s.operand2 op2
    let t : State := { s with pc := s.npc, npc := s.npc + 4 }
    let writes (n : Reg) (u : State) : Prop := exec (.wrpr n rs1 op2) s = .next u
    let top := s.trapRegs s.tl
    let stack (r : TrapRegs) : State := { t with trapStack := s.trapStack.set (tlIndex s.tl) r }
    let x := v.extractLsb' 0 5
    let clean : Prop := v.extractLsb' 40 24 = 0 ∧ v.extractLsb' 20 4 = 0 ∧ v.extractLsb' 5 3 = 0
    (s.tl ≠ 0 →
      writes 0 (stack { top with tpc := v &&& 0xFFFFFFFFFFFFFFFC }) ∧
      writes 1 (stack { top with tnpc := v &&& 0xFFFFFFFFFFFFFFFC }) ∧
      (clean → writes 2 (stack { top with
        tstate := (0#24 ++ v.extractLsb' 32 8 ++ v.extractLsb' 24 8 ++ 0#4
          ++ (v.extractLsb' 8 12 &&& pstateMask s.params) ++ 0#3
          ++ v.extractLsb' 0 5 : BitVec 64) })) ∧
      (¬ clean → exec (.wrpr 2 rs1 op2) s = .refused .reservedFieldWritten) ∧
      writes 3 (stack { top with tt := v.extractLsb' 0 9 })) ∧
    writes 4 { t with tick := v } ∧
    writes 5 { t with tba := v &&& 0xFFFFFFFFFFFF8000 } ∧
    (v.extractLsb' 6 2 ≠ 3 → writes 6 { t with pstate := v.extractLsb' 0 12 &&& pstateMask s.params }) ∧
    ((v.extractLsb' 0 3).toNat ≤ s.params.maxtl → writes 7 { t with tl := v.extractLsb' 0 3 }) ∧
    writes 8 { t with pil := v.extractLsb' 0 4 } ∧
    (x.toNat < s.params.nwindows →
      writes 9 { t with cwp := x } ∧ writes 10 { t with cansave := x } ∧
      writes 11 { t with canrestore := x } ∧ writes 12 { t with cleanwin := x } ∧
      writes 13 { t with otherwin := x }) ∧
    writes 14 { t with wstate := v.extractLsb' 0 6 }

/-- RDPR, WRPR, SAVED and RESTORED raise privileged_opcode in nonprivileged mode; in privileged mode
RDPR of registers 15 to 30, WRPR of registers 15 to 31, and either of TPC, TNPC, TSTATE, TT at TL = 0
raise illegal_instruction. WRPR of a value above NWINDOWS-1 to a window register, whose effect is
undefined, faults; of PSTATE with the reserved MM = 3 and of a TL above MAXTL it is refused
(45_state_register_access.md R296, R297; 46_register_windows.md R310; 10_state.md R45;
92_eei_decisions.md D8, D16). -/
def Obligations.PrivilegedInstructionsThatTrapOrStop : Prop :=
  ∀ (s : State) (rd rs1 : Reg) (op2 : Operand2),
    let traps (i : Instr) (e : Exc) : Prop := exec i s = .next (takeTrap e s)
    let v := s.readReg rs1 ^^^ s.operand2 op2
    (s.priv = false → traps (.rdpr rd rs1) .privilegedOpcode ∧
      traps (.wrpr rd rs1 op2) .privilegedOpcode ∧ traps .saved .privilegedOpcode ∧
      traps .restored .privilegedOpcode) ∧
    (s.priv = true →
      (15 ≤ rs1.toNat → rs1.toNat ≤ 30 → traps (.rdpr rd rs1) .illegalInstruction) ∧
      (15 ≤ rd.toNat → traps (.wrpr rd rs1 op2) .illegalInstruction) ∧
      (s.tl = 0 → rs1.toNat ≤ 3 → traps (.rdpr rd rs1) .illegalInstruction) ∧
      (s.tl = 0 → rd.toNat ≤ 3 → traps (.wrpr rd rs1 op2) .illegalInstruction) ∧
      (s.params.wf → s.params.nwindows ≤ (v.extractLsb' 0 5).toNat → 9 ≤ rd.toNat →
        rd.toNat ≤ 13 → exec (.wrpr rd rs1 op2) s = .fault .windowRegisterOutOfRange) ∧
      (v.extractLsb' 6 2 = 3 → exec (.wrpr 6 rs1 op2) s = .refused .reservedMemoryModel) ∧
      (s.params.maxtl < (v.extractLsb' 0 3).toNat →
        exec (.wrpr 7 rs1 op2) s = .refused .trapLevelAboveMax))

/-! ### Register windows -/

/-- SAVE completes when CANSAVE is not 0, the next window is clean and CANRESTORE can count it: the sum
of the operands, read in the old window, goes to rd of the new window, CWP goes up by one modulo
NWINDOWS, CANSAVE down and CANRESTORE up by one; nothing else changes (46_register_windows.md R311). -/
def Obligations.SaveOpensAWindow : Prop :=
  ∀ (s : State) (rd rs1 : Reg) (op2 : Operand2), s.cansave ≠ 0 → s.cleanwin ≠ s.canrestore →
    s.canrestore.toNat + 1 < s.params.nwindows →
    let u : State := { s with
      cwp := BitVec.ofNat 5 ((s.cwp.toNat + 1) % s.params.nwindows)
      cansave := s.cansave - 1
      canrestore := s.canrestore + 1 }
    ∃ t, exec (.save rd rs1 op2) s = .next t ∧
      WroteInts u t [(u.cellOf rd, s.readReg rs1 + s.operand2 op2)]

/-- RESTORE completes when CANRESTORE is not 0 and CANSAVE can count the window: the sum of the
operands, read in the old window, goes to rd of the restored window, CWP goes down by one modulo
NWINDOWS, CANRESTORE down and CANSAVE up by one, CLEANWIN stays; nothing else changes
(46_register_windows.md R312). -/
def Obligations.RestoreClosesAWindow : Prop :=
  ∀ (s : State) (rd rs1 : Reg) (op2 : Operand2), s.Legal → s.canrestore ≠ 0 →
    s.cansave.toNat + 1 < s.params.nwindows →
    let u : State := { s with
      cwp := if s.cwp = 0 then BitVec.ofNat 5 (s.params.nwindows - 1) else s.cwp - 1
      canrestore := s.canrestore - 1
      cansave := s.cansave + 1 }
    ∃ t, exec (.restore rd rs1 op2) s = .next t ∧
      WroteInts u t [(u.cellOf rd, s.readReg rs1 + s.operand2 op2)]

/-- SAVED and RESTORED complete in privileged mode when every register they change stays in
0..NWINDOWS-1: SAVED adds one to CANSAVE, RESTORED one to CANRESTORE, and each takes one from the
register that OTHERWIN = 0 or not selects; RESTORED increments CLEANWIN only when it is below
NWINDOWS-1; nothing else changes (46_register_windows.md R314, R315, R316). -/
def Obligations.SavedAndRestoredCount : Prop :=
  ∀ s : State, s.priv = true →
    let t : State := { s with pc := s.npc, npc := s.npc + 4 }
    (s.cansave.toNat + 1 < s.params.nwindows → s.otherwin = 0 → s.canrestore ≠ 0 →
      exec .saved s = .next { t with cansave := s.cansave + 1, canrestore := s.canrestore - 1 }) ∧
    (s.cansave.toNat + 1 < s.params.nwindows → s.otherwin ≠ 0 →
      exec .saved s = .next { t with cansave := s.cansave + 1, otherwin := s.otherwin - 1 }) ∧
    (s.canrestore.toNat + 1 < s.params.nwindows →
      let u : State := { t with
        canrestore := s.canrestore + 1
        cleanwin := if s.cleanwin.toNat < s.params.nwindows - 1 then s.cleanwin + 1 else s.cleanwin }
      (s.otherwin = 0 → s.cansave ≠ 0 →
        exec .restored s = .next { u with cansave := s.cansave - 1 }) ∧
      (s.otherwin ≠ 0 → exec .restored s = .next { u with otherwin := s.otherwin - 1 }))

/-- The window traps: SAVE with CANSAVE = 0 takes a spill trap, with CANSAVE not 0 and the next window
not clean clean_window; RESTORE with CANRESTORE = 0 a fill trap; normal with WSTATE.NORMAL when
OTHERWIN = 0, else other with WSTATE.OTHER; a normal trap entry saves the old CWP and sets CWP and TT
as the table of R313 says (46_register_windows.md R311, R312, R313). -/
def Obligations.WindowTraps : Prop :=
  ∀ (s : State) (rd rs1 : Reg) (op2 : Operand2), s.Legal → s.red = false →
    s.tl.toNat + 1 < s.params.maxtl →
    let traps (i : Instr) (tt : BitVec 9) (cwp : Nat) : Prop := ∃ t, exec i s = .next t ∧
      t.cwp.toNat = cwp % s.params.nwindows ∧ t.tl = s.tl + 1 ∧ (t.trapRegs t.tl).tt = tt ∧
      tstateCwp (t.trapRegs t.tl).tstate = s.cwp ∧
      t.globals = s.globals ∧ t.altGlobals = s.altGlobals ∧ t.locals = s.locals ∧ t.ins = s.ins ∧
      t.cansave = s.cansave ∧ t.canrestore = s.canrestore ∧ t.cleanwin = s.cleanwin ∧
      t.otherwin = s.otherwin ∧ t.wstate = s.wstate
    let normal := (s.wstate.extractLsb' 0 3).setWidth 9
    let other := (s.wstate.extractLsb' 3 3).setWidth 9
    (s.cansave = 0 → s.otherwin = 0 →
      traps (.save rd rs1 op2) (0x080 + 4 * normal) (s.cwp.toNat + s.cansave.toNat + 2)) ∧
    (s.cansave = 0 → s.otherwin ≠ 0 →
      traps (.save rd rs1 op2) (0x0A0 + 4 * other) (s.cwp.toNat + s.cansave.toNat + 2)) ∧
    (s.cansave ≠ 0 → s.cleanwin = s.canrestore →
      traps (.save rd rs1 op2) 0x024 (s.cwp.toNat + 1)) ∧
    (s.canrestore = 0 → s.otherwin = 0 →
      traps (.restore rd rs1 op2) (0x0C0 + 4 * normal) (s.cwp.toNat + s.params.nwindows - 1)) ∧
    (s.canrestore = 0 → s.otherwin ≠ 0 →
      traps (.restore rd rs1 op2) (0x0E0 + 4 * other) (s.cwp.toNat + s.params.nwindows - 1))

/-- CANSAVE + CANRESTORE + OTHERWIN is the same after every instruction that answers a next state,
except a WRPR of one of the three; so in a consistent state it stays NWINDOWS - 2
(46_register_windows.md R318; 10_state.md R46). -/
def Obligations.WindowSumIsKept : Prop :=
  ∀ (i : Instr) (s t : State), s.Legal → exec i s = .next t →
    (∀ rs1 op2, i ≠ .wrpr 10 rs1 op2 ∧ i ≠ .wrpr 11 rs1 op2 ∧ i ≠ .wrpr 13 rs1 op2) →
    t.cansave.toNat + t.canrestore.toNat + t.otherwin.toNat
      = s.cansave.toNat + s.canrestore.toNat + s.otherwin.toNat

/-! ### Tagged add -/

/-- TADDcc completes: x[rd] receives the sum and CCR its eight condition codes, N and Z of the 32-bit
and the 64-bit sum, C the unsigned carry out of 32 and of 64 bits, xcc.V the signed 64-bit overflow,
icc.V the tag overflow (a nonzero tag or signed 32-bit overflow). TADDccTV does the same when there is
no tag overflow, and else raises tag_overflow (48_tagged_add.md R351, R352, R353; 10_state.md R27). -/
def Obligations.TaggedAdds : Prop :=
  ∀ (s : State) (rd rs1 : Reg) (op2 : Operand2),
    let a := s.readReg rs1
    let b := s.operand2 op2
    let a32 := a.extractLsb' 0 32
    let b32 := b.extractLsb' 0 32
    let tagOv : Prop := a.extractLsb' 0 2 ≠ 0 ∨ b.extractLsb' 0 2 ≠ 0 ∨
      a32.toInt + b32.toInt ≠ (a32 + b32).toInt
    let sums (i : Instr) : Prop := ∃ t c, exec i s = .next t ∧
      WroteInts { s with ccr := c } t [(s.cellOf rd, a + b)] ∧
      c.getLsbD 7 = (a + b).msb ∧ (c.getLsbD 6 = true ↔ a + b = 0) ∧
      (c.getLsbD 5 = true ↔ a.toInt + b.toInt ≠ (a + b).toInt) ∧
      (c.getLsbD 4 = true ↔ 2 ^ 64 ≤ a.toNat + b.toNat) ∧
      c.getLsbD 3 = (a32 + b32).msb ∧ (c.getLsbD 2 = true ↔ a32 + b32 = 0) ∧
      (c.getLsbD 1 = true ↔ tagOv) ∧
      (c.getLsbD 0 = true ↔ 2 ^ 32 ≤ a32.toNat + b32.toNat)
    sums (.taddcc rd rs1 op2) ∧
    (¬ tagOv → sums (.taddcctv rd rs1 op2)) ∧
    (tagOv → exec (.taddcctv rd rs1 op2) s = .next (takeTrap .tagOverflow s))

/-! ### Traps -/

/-- A trap that is no reset, taken with TL below MAXTL - 1 and PSTATE.RED = 0, saves CCR, ASI, PSTATE,
CWP, PC, nPC and the trap type at TL + 1, keeps the other levels, sets RED 0, PEF 1, AM 0, PRIV 1,
IE 0, AG 1 and CLE to TLE, keeps MM, TLE, PID1 and PID0, goes to the vector
TBA[63:15] :: (TL > 0) :: tt :: 00000 and leaves every other register and memory; only the window
traps change CWP and only the floating-point traps FSR (60_exceptions.md R372, R373; 10_state.md R26,
R40, R41). -/
def Obligations.NormalTrapEntry : Prop :=
  ∀ (s : State) (e : Exc), s.Legal → e.isReset = false → s.red = false →
    s.tl.toNat + 1 < s.params.maxtl →
    let t := takeTrap e s
    let saved := t.trapRegs t.tl
    let vector : Word := s.tba + (if s.tl = 0 then 0 else 0x4000) + 32 * e.tt.setWidth 64
    t = { s with
      tl := s.tl + 1
      trapStack := t.trapStack
      pstate := t.pstate
      cwp := t.cwp
      fsr := t.fsr
      pc := vector
      npc := vector + 4 } ∧
    tstateCcr saved.tstate = s.ccr ∧ tstateAsi saved.tstate = s.asi ∧
    tstatePstate saved.tstate = s.pstate ∧ tstateCwp saved.tstate = s.cwp ∧
    (s.am = false → saved.tpc = s.pc ∧ saved.tnpc = s.npc) ∧
    (s.am = true → saved.tpc = (s.pc.extractLsb' 0 32).setWidth 64 ∧
      saved.tnpc = (s.npc.extractLsb' 0 32).setWidth 64) ∧
    saved.tt = e.tt ∧ (∀ n, n ≠ s.tl + 1 → t.trapRegs n = s.trapRegs n) ∧
    t.mm = s.mm ∧ t.red = false ∧ t.pef = true ∧ t.am = false ∧ t.priv = true ∧ t.ie = false ∧
    t.ag = true ∧ t.cle = s.tle ∧ t.tle = s.tle ∧
    t.pstate.extractLsb' 10 2 = s.pstate.extractLsb' 10 2 ∧
    ((e.tt < 0x024 ∨ (0x027 < e.tt ∧ e.tt < 0x080) ∨ 0x0FF < e.tt) → t.cwp = s.cwp) ∧
    (e.tt ≠ 0x021 → e.tt ≠ 0x022 → t.fsr = s.fsr)

/-- A trap taken with TL = MAXTL - 1, a trap taken while PSTATE.RED = 1 below MAXTL and a watchdog,
externally or software-initiated reset below MAXTL enter RED_state: the interrupted state is saved at
TL + 1, MM is 0, RED 1, PEF 1, AM 0, PRIV 1, IE 0, AG 1, CLE the old TLE, and control goes to
RSTVaddr + 0xA0, or for a reset to RSTVaddr plus its own offset; a window trap adjusts CWP as on a
normal entry, no other trap changes it. TLE afterwards is a free value (60_exceptions.md R374;
46_register_windows.md R313; 70_reset_and_hazards.md R420, R421, R422, R424, R425; log 9; that the
watchdog and external resets save the interrupted state so is read from R425, log 33). Power-on reset
is State.reset. -/
def Obligations.RedStateEntry : Prop :=
  ∀ (s : State) (e : Exc), s.Legal → e ≠ .powerOnReset →
    s.tl.toNat < s.params.maxtl →
    (e.isReset = true ∨ s.red = true ∨ s.tl.toNat + 1 = s.params.maxtl) →
    let t := takeTrap e s
    let saved := t.trapRegs t.tl
    let offset : Word :=
      if e.tt = 0x002 then 0x40 else if e.tt = 0x003 then 0x60
      else if e.tt = 0x004 then 0x80 else 0xA0
    let window (n : Nat) : Prop := t.cwp.toNat = n % s.params.nwindows
    t = { s with
      tl := s.tl + 1
      trapStack := t.trapStack
      pstate := t.pstate
      cwp := t.cwp
      fsr := t.fsr
      pc := s.params.rstvaddr + offset
      npc := s.params.rstvaddr + offset + 4
      draws := t.draws } ∧
    tstateCcr saved.tstate = s.ccr ∧ tstateAsi saved.tstate = s.asi ∧
    tstatePstate saved.tstate = s.pstate ∧ tstateCwp saved.tstate = s.cwp ∧
    saved.tpc = s.maskAddr s.pc ∧ saved.tnpc = s.maskAddr s.npc ∧ saved.tt = e.tt ∧
    (∀ n, n ≠ s.tl + 1 → t.trapRegs n = s.trapRegs n) ∧
    t.mm = 0 ∧ t.red = true ∧ t.pef = true ∧ t.am = false ∧ t.priv = true ∧ t.ie = false ∧
    t.ag = true ∧ t.cle = s.tle ∧
    (e.tt = 0x024 → window (s.cwp.toNat + 1)) ∧
    (0x080 ≤ e.tt → e.tt ≤ 0x0BF → window (s.cwp.toNat + s.cansave.toNat + 2)) ∧
    (0x0C0 ≤ e.tt → e.tt ≤ 0x0FF → window (s.cwp.toNat + s.params.nwindows - 1)) ∧
    ((e.tt < 0x024 ∨ (0x027 < e.tt ∧ e.tt < 0x080) ∨ 0x0FF < e.tt) → t.cwp = s.cwp) ∧
    (e.tt ≠ 0x021 → e.tt ≠ 0x022 → t.fsr = s.fsr)

/-- A trap that is no reset, and SIR, with TL = MAXTL enters error_state and saves nothing: no register,
no level of the trap stack and no byte of memory changes; from there no step leads on
(60_exceptions.md R375). That error_state is a flag entered by a next state is the model's form
(log 8). -/
def Obligations.TrapAtMaxtlEntersErrorState : Prop :=
  ∀ (s : State) (e : Exc), (e.isReset = false ∨ e = .softwareInitiatedReset) →
    s.tl.toNat = s.params.maxtl →
    takeTrap e s = { s with errorState := true } ∧
    Sys2Proof.Machine.step (takeTrap e s) = .fault .stuckInErrorState

/-- The operation returnFromTrap undoes a normal trap: from the state right after the trap, RETRY
restores every register but the trap stack and FSR, and PC and nPC are those of the instruction that
trapped, their upper 32 bits zero when PSTATE.AM was 1, so that it executes again; DONE resumes at its
nPC (60_exceptions.md R372, R378; 10_state.md R26). DONE and RETRY have no row: the operation is the
model's own, after R378's words "for orientation" (log 23). -/
def Obligations.ReturnFromTrapResumes : Prop :=
  ∀ (s : State) (e : Exc), s.Legal → e.isReset = false → s.red = false →
    s.tl.toNat + 1 < s.params.maxtl →
    let t := takeTrap e s
    let pc := if s.am then (s.pc.extractLsb' 0 32).setWidth 64 else s.pc
    let npc := if s.am then (s.npc.extractLsb' 0 32).setWidth 64 else s.npc
    returnFromTrap false t
      = .next { s with trapStack := t.trapStack, fsr := t.fsr, pc := pc, npc := npc } ∧
    returnFromTrap true t
      = .next { s with trapStack := t.trapStack, fsr := t.fsr, pc := npc, npc := npc + 4 }

/-! ### Floating-point exceptions -/

/-- The overflow, underflow and inexact table: for what an FPop detects and the masks OFM, UFM, NXM of
FSR.TEM, whether the IEEE_754_exception trap occurs and which bits of cexc are set, the ten rows of
R209 (42_fp_move_and_fsr.md R207, R208, R209). -/
def Obligations.OverflowUnderflowInexactTable : Prop :=
  ∀ ofm ufm nxm nvm dzm : Bool,
    let tem : BitVec 5 := BitVec.ofBool nvm ++ BitVec.ofBool ofm ++ BitVec.ofBool ufm
      ++ BitVec.ofBool dzm ++ BitVec.ofBool nxm
    let row (of uf nx trap : Bool) (cexc : BitVec 5) : Prop :=
      (fpTrapBit tem ⟨false, of, uf, false, nx⟩).isSome = trap ∧
      fpCexc tem ⟨false, of, uf, false, nx⟩ = cexc
    row false false false false 0b00000 ∧
    (nxm = false → row false false true false 0b00001) ∧
    (ufm = false → nxm = false → row false true true false 0b00101) ∧
    (ofm = false → nxm = false → row true false true false 0b01001) ∧
    (nxm = true → row false false true true 0b00001) ∧
    (ufm = false → nxm = true → row false true true true 0b00001) ∧
    (ufm = true → row false true false true 0b00100) ∧
    (ufm = true → row false true true true 0b00100) ∧
    (ofm = true → row true false true true 0b01000) ∧
    (ofm = false → nxm = true → row true false true true 0b00001)

/-- The end of an arithmetic FPop with a single result in F[n]: when an enabled exception is detected it
takes the trap fp_exception_ieee_754 with FSR.ftt = 1 and one cexc bit, and leaves F, FPRS and the rest
of FSR, fcc and aexc among it; else ftt is 0, cexc holds what was detected, aexc accumulates it, the
rest of FSR stays, the result is written and its half marked dirty, and nothing else changes
(42_fp_move_and_fsr.md R205; 60_exceptions.md R382; 10_state.md R30, R36). No row is an arithmetic
FPop: the operation is the model's own (log 27), and that no other dirty bit is set its choice
(log 16). -/
def Obligations.FpopEndsByTrapOrResult : Prop :=
  ∀ (s : State) (d : FpDetected) (n : BitVec 6) (v : BitVec 32),
    s.tl.toNat < s.params.maxtl →
    let write (x : State) : State := (x.setFWord n v).markDirty n
    (d.bits &&& fsrTem s.fsr ≠ 0 → ∃ t, completeFpop d write s = .next t ∧
      t.f = s.f ∧ t.fprs = s.fprs ∧
      t.fsr &&& 0xFFFFFFFFFFFE3FE0 = s.fsr &&& 0xFFFFFFFFFFFE3FE0 ∧
      fsrFtt t.fsr = 1 ∧ (t.trapRegs t.tl).tt = 0x021 ∧
      ∃ k, k < 5 ∧ fsrCexc t.fsr = 1#5 <<< k ∧ d.bits.getLsbD k = true ∧
        (fsrTem s.fsr).getLsbD k = true) ∧
    (d.bits &&& fsrTem s.fsr = 0 → ∃ t, completeFpop d write s = .next t ∧
      WroteFloats { s with
        fsr := t.fsr
        fprs := s.fprs ||| (if n.toNat < 32 then 1 else 2) } t [(n, v)] ∧
      t.fsr &&& 0xFFFFFFFFFFFE3C00 = s.fsr &&& 0xFFFFFFFFFFFE3C00 ∧
      fsrFtt t.fsr = 0 ∧ fsrCexc t.fsr = d.bits ∧ fsrAexc t.fsr = (fsrAexc s.fsr ||| d.bits))

/-- Table 28: for a format with smallest normalized number m, an exact result u and its rounded value
r, tininess detected before rounding, what occurs for each setting of UFM and NXM: UF and NX the
trap with that cexc bit, "uf nx" both bits without a trap, none nothing (42_fp_move_and_fsr.md R211,
R212, R213). -/
def Obligations.UnderflowTable28 : Prop :=
  ∀ (f : FpFormat) (rd : BitVec 2) (u r : Rat) (ufm nxm ofm nvm dzm : Bool), 0 < f.m →
    let tem : BitVec 5 := BitVec.ofBool nvm ++ BitVec.ofBool ofm ++ BitVec.ofBool ufm
      ++ BitVec.ofBool dzm ++ BitVec.ofBool nxm
    let d := detectUnderflow false ufm f rd u r
    let small : Prop := u ≠ 0 ∧ -f.m < u ∧ u < f.m
    let outcome (trap : Bool) (cexc : BitVec 5) : Prop :=
      (fpTrapBit tem d).isSome = trap ∧ fpCexc tem d = cexc
    (u = r → ¬ small → outcome false 0) ∧
    (u = r → small → (ufm = true → outcome true 0b00100) ∧ (ufm = false → outcome false 0)) ∧
    (u ≠ r → small → (ufm = true → outcome true 0b00100) ∧
      (ufm = false → nxm = true → outcome true 0b00001) ∧
      (ufm = false → nxm = false → outcome false 0b00101))

/-- Tininess after rounding: Table 28 applies to u in the range of R214 for the rounding direction;
outside it underflow does not occur, although inexact still does when u is not r
(42_fp_move_and_fsr.md R214, R215). -/
def Obligations.UnderflowAfterRounding : Prop :=
  ∀ (f : FpFormat) (rd : BitVec 2) (u r : Rat) (ufm : Bool), u ≠ 0 →
    let inRange : Prop :=
      (rd = 0 → |u| < f.m * (1 - f.e / 4)) ∧
      (rd = 1 → |u| < f.m) ∧
      (rd = 2 → -f.m < u ∧ u ≤ f.m * (1 - f.e / 2)) ∧
      (rd = 3 → -(f.m * (1 - f.e / 2)) ≤ u ∧ u < f.m)
    let d := detectUnderflow true ufm f rd u r
    (inRange → (d.uf = true ↔ ufm = true ∨ u ≠ r)) ∧
    (¬ inRange → d.uf = false) ∧
    (d.nx = true ↔ u ≠ r) ∧ d.of = false ∧ d.nv = false ∧ d.dz = false

/-! ### Window counts out of range -/

/-- SAVE, RESTORE, SAVED and RESTORED fault when a register they count would leave 0..NWINDOWS-1, a
decrement of 0 among it, after their traps have been ruled out (46_register_windows.md R318;
10_state.md R45; 92_eei_decisions.md D8). That the whole instruction faults, with no effect, is read
from D8 (log 35). -/
def Obligations.WindowCountsOutOfRangeFault : Prop :=
  ∀ (s : State) (rd rs1 : Reg) (op2 : Operand2), s.params.wf →
    let full (r : BitVec 5) : Prop := s.params.nwindows ≤ r.toNat + 1
    let stops (i : Instr) : Prop := exec i s = .fault .windowRegisterOutOfRange
    (s.cansave ≠ 0 → s.cleanwin ≠ s.canrestore → full s.canrestore → stops (.save rd rs1 op2)) ∧
    (s.canrestore ≠ 0 → full s.cansave → stops (.restore rd rs1 op2)) ∧
    (s.priv = true → full s.cansave ∨ (s.otherwin = 0 ∧ s.canrestore = 0) → stops .saved) ∧
    (s.priv = true → full s.canrestore ∨ (s.otherwin = 0 ∧ s.cansave = 0) → stops .restored)
end

