-- ==== Sys2Proof/Laws/Memory.lean ====
section
/-! SUPPORT. The laws of memory: read after write, the canonical form, byte order. -/

namespace Sys2Proof.Machine

/-! ### One byte -/

@[simp] theorem readByte_nil (x : Nat) : readByte [] x = initialByte := rfl

theorem readByte_cons (k : Nat) (v : Byte) (m : Memory) (x : Nat) :
    readByte ((k, v) :: m) x = if x = k then v else readByte m x := rfl

theorem readByte_eraseByte (m : Memory) (a x : Nat) :
    readByte (eraseByte m a) x = if x = a then initialByte else readByte m x := by
  induction m with
  | nil => simp [eraseByte]
  | cons p m ih =>
    obtain ⟨k, v⟩ := p
    unfold eraseByte
    split
    · subst k
      rw [ih, readByte_cons]
      split <;> simp_all
    · rw [readByte_cons, readByte_cons, ih]
      by_cases hx : x = k
      · subst x; simp_all
      · simp [hx]

theorem readByte_insertByte (m : Memory) (a x : Nat) (b : Byte)
    (h : ∀ p ∈ m, p.1 ≠ a) :
    readByte (insertByte m a b) x = if x = a then b else readByte m x := by
  induction m with
  | nil => simp [insertByte, readByte_cons]
  | cons p m ih =>
    obtain ⟨k, v⟩ := p
    have hk : k ≠ a := h (k, v) (by simp)
    have ih := ih fun p hp => h p (by simp [hp])
    unfold insertByte
    split
    · simp [readByte_cons]
    · rw [readByte_cons, ih, readByte_cons]
      by_cases hx : x = k
      · subst x; simp [hk]
      · simp [hx]

theorem eraseByte_no_key (m : Memory) (a : Nat) : ∀ p ∈ eraseByte m a, p.1 ≠ a := by
  induction m with
  | nil => simp [eraseByte]
  | cons p m ih =>
    obtain ⟨k, v⟩ := p
    unfold eraseByte
    split
    · exact ih
    · intro q hq
      rcases List.mem_cons.1 hq with rfl | hq
      · assumption
      · exact ih q hq

/-- A byte read after a byte was written: the byte written, or the byte that was there. -/
theorem readByte_writeByte (m : Memory) (a x : Nat) (b : Byte) :
    readByte (writeByte m a b) x = if x = a then b else readByte m x := by
  unfold writeByte
  split
  · rw [readByte_eraseByte]; split <;> simp_all
  · rw [readByte_insertByte _ _ _ _ (eraseByte_no_key m a), readByte_eraseByte]
    split <;> simp_all

/-- A byte that no entry lists reads as the initial byte. -/
theorem readByte_unlisted (m : Memory) (x : Nat) (h : ∀ p ∈ m, p.1 ≠ x) :
    readByte m x = initialByte := by
  induction m with
  | nil => rfl
  | cons p m ih =>
    obtain ⟨k, v⟩ := p
    have hk : k ≠ x := h (k, v) (by simp)
    rw [readByte_cons, if_neg (Ne.symm hk)]
    exact ih fun p hp => h p (by simp [hp])

/-! ### The canonical form -/

/-- The canonical form as a proposition: every entry is inside the address space and not the initial
byte, and addresses rise strictly. -/
theorem wf_iff (m : Memory) : Memory.wf m = true ↔
    (∀ p ∈ m, p.1 < 2 ^ 64 ∧ p.2 ≠ initialByte) ∧ m.Pairwise (fun p q => p.1 < q.1) := by
  induction m with
  | nil => simp [Memory.wf]
  | cons p m ih =>
    obtain ⟨k, v⟩ := p
    cases m with
    | nil => simp [Memory.wf]
    | cons q m =>
      obtain ⟨k', v'⟩ := q
      unfold Memory.wf
      rw [Bool.and_eq_true, ih]
      simp only [Bool.and_eq_true, decide_eq_true_eq, List.mem_cons, forall_eq_or_imp,
        List.pairwise_cons]
      constructor
      · rintro ⟨⟨⟨h1, h2⟩, h3⟩, ⟨h4, h5⟩, h6, h7⟩
        exact ⟨⟨⟨h1, h2⟩, h4, h5⟩, ⟨h3, fun q hq => lt_trans h3 (h6 q hq)⟩, h6, h7⟩
      · rintro ⟨⟨⟨h1, h2⟩, h4, h5⟩, ⟨h3, h8⟩, h6, h7⟩
        exact ⟨⟨⟨h1, h2⟩, h3⟩, ⟨h4, h5⟩, h6, h7⟩

theorem eraseByte_sublist (m : Memory) (a : Nat) : (eraseByte m a).Sublist m := by
  induction m with
  | nil => simp [eraseByte]
  | cons p m ih =>
    obtain ⟨k, v⟩ := p
    unfold eraseByte
    split
    · exact ih.cons _
    · exact ih.cons_cons _

theorem mem_insertByte (m : Memory) (a : Nat) (b : Byte) (p : Host.Cell) :
    p ∈ insertByte m a b ↔ p = (a, b) ∨ p ∈ m := by
  induction m with
  | nil => simp [insertByte]
  | cons q m ih =>
    obtain ⟨k, v⟩ := q
    unfold insertByte
    split
    · simp
    · simp only [List.mem_cons, ih]
      tauto

theorem insertByte_pairwise (m : Memory) (a : Nat) (b : Byte) (hk : ∀ p ∈ m, p.1 ≠ a)
    (h : m.Pairwise (fun p q => p.1 < q.1)) :
    (insertByte m a b).Pairwise (fun p q => p.1 < q.1) := by
  induction m with
  | nil => simp [insertByte]
  | cons q m ih =>
    obtain ⟨k, v⟩ := q
    have hka : k ≠ a := hk (k, v) (by simp)
    rw [List.pairwise_cons] at h
    unfold insertByte
    split
    · rename_i hlt
      refine List.pairwise_cons.2 ⟨?_, List.pairwise_cons.2 h⟩
      intro p hp
      rcases List.mem_cons.1 hp with rfl | hp
      · exact hlt
      · exact lt_trans hlt (h.1 p hp)
    · refine List.pairwise_cons.2 ⟨?_, ih (fun p hp => hk p (by simp [hp])) h.2⟩
      intro p hp
      rcases (mem_insertByte m a b p).1 hp with rfl | hp
      · show k < a; omega
      · exact h.1 p hp

/-- A byte write inside the address space keeps the canonical form. -/
theorem writeByte_wf (m : Memory) (a : Nat) (b : Byte) (ha : a < 2 ^ 64)
    (h : Memory.wf m = true) : Memory.wf (writeByte m a b) = true := by
  obtain ⟨h1, h2⟩ := (wf_iff m).1 h
  have he1 : ∀ p ∈ eraseByte m a, p.1 < 2 ^ 64 ∧ p.2 ≠ initialByte := fun p hp =>
    h1 p ((eraseByte_sublist m a).subset hp)
  have he2 := h2.sublist (eraseByte_sublist m a)
  rw [wf_iff]
  unfold writeByte
  split
  · exact ⟨he1, he2⟩
  · rename_i hb
    refine ⟨?_, insertByte_pairwise _ _ _ (eraseByte_no_key m a) he2⟩
    intro p hp
    rcases (mem_insertByte _ a b p).1 hp with rfl | hp
    · exact ⟨ha, hb⟩
    · exact he1 p hp

/-! ### Several bytes -/

@[simp] theorem length_readBytes (m : Memory) (a n : Nat) : (readBytes m a n).length = n := by
  induction n generalizing a with
  | zero => rfl
  | succ n ih => simp [readBytes, ih]

/-- A byte read after bytes were written. -/
theorem readByte_writeBytes (m : Memory) (a : Nat) (bs : List Byte) (x : Nat) :
    readByte (writeBytes m a bs) x
      = if a ≤ x ∧ x < a + bs.length then bs.getD (x - a) 0 else readByte m x := by
  induction bs generalizing m a with
  | nil =>
    have : ¬ (a ≤ x ∧ x < a + ([] : List Byte).length) := by simp
    rw [if_neg this]; rfl
  | cons b bs ih =>
    simp only [writeBytes, ih, readByte_writeByte, List.length_cons]
    by_cases h1 : x = a
    · subst x
      simp
    · by_cases h2 : a + 1 ≤ x ∧ x < a + 1 + bs.length
      · have h3 : a ≤ x ∧ x < a + (bs.length + 1) := by omega
        have h4 : x - a = (x - (a + 1)) + 1 := by omega
        rw [if_pos h2, if_pos h3, h4]
        rfl
      · have h3 : ¬ (a ≤ x ∧ x < a + (bs.length + 1)) := by omega
        rw [if_neg h2, if_neg h3, if_neg h1]

/-- Bytes read back where they were written. -/
theorem readBytes_writeBytes (m : Memory) (a : Nat) (bs : List Byte) :
    readBytes (writeBytes m a bs) a bs.length = bs := by
  have key : ∀ (m : Memory) (a n : Nat) (bs : List Byte), bs.length = n →
      (∀ i, i < n → readByte m (a + i) = bs.getD i 0) → readBytes m a n = bs := by
    intro m a n
    induction n generalizing a with
    | zero => intro bs hb _; simp_all [readBytes]
    | succ n ih =>
      intro bs hb h
      cases bs with
      | nil => simp at hb
      | cons b bs =>
        simp only [readBytes]
        have h0 := h 0 (by omega)
        simp only [Nat.add_zero, List.getD_cons_zero] at h0
        rw [h0, ih (a + 1) bs (by simpa using hb)]
        intro i hi
        have := h (i + 1) (by omega)
        simpa [Nat.add_assoc, Nat.add_comm 1 i] using this
  apply key _ _ _ _ rfl
  intro i hi
  rw [readByte_writeBytes, if_pos (by omega)]
  congr 1
  omega

/-- Two memories that agree on n bytes at a read the same n bytes there. -/
theorem readBytes_congr (m m' : Memory) (a n : Nat)
    (h : ∀ x, a ≤ x → x < a + n → readByte m' x = readByte m x) :
    readBytes m' a n = readBytes m a n := by
  induction n generalizing a with
  | zero => rfl
  | succ n ih =>
    simp only [readBytes]
    rw [h a (by omega) (by omega), ih (a + 1) fun x h1 h2 => h x (by omega) (by omega)]

/-- Bytes read where none was written. -/
theorem readBytes_writeBytes_apart (m : Memory) (a : Nat) (bs : List Byte) (c n : Nat)
    (h : c + n ≤ a ∨ a + bs.length ≤ c) :
    readBytes (writeBytes m a bs) c n = readBytes m c n := by
  apply readBytes_congr
  intro x h1 h2
  rw [readByte_writeBytes, if_neg (by omega)]

theorem readBytes_append (m : Memory) (a n k : Nat) :
    readBytes m a (n + k) = readBytes m a n ++ readBytes m (a + n) k := by
  induction n generalizing a with
  | zero => simp [readBytes]
  | succ n ih =>
    have h1 : n + 1 + k = (n + k) + 1 := by omega
    have h2 : a + 1 + n = a + (n + 1) := by omega
    rw [h1]
    simp only [readBytes, List.cons_append]
    rw [ih (a + 1), h2]

theorem writeBytes_append (m : Memory) (a : Nat) (bs cs : List Byte) :
    writeBytes m a (bs ++ cs) = writeBytes (writeBytes m a bs) (a + bs.length) cs := by
  induction bs generalizing m a with
  | nil => simp [writeBytes]
  | cons b bs ih =>
    simp only [List.cons_append, writeBytes, List.length_cons]
    rw [ih]
    congr 1
    omega

/-- Bytes written inside the address space keep the canonical form. -/
theorem writeBytes_wf (m : Memory) (a : Nat) (bs : List Byte) (ha : a + bs.length ≤ 2 ^ 64)
    (h : Memory.wf m = true) : Memory.wf (writeBytes m a bs) = true := by
  induction bs generalizing m a with
  | nil => exact h
  | cons b bs ih =>
    simp only [List.length_cons] at ha
    exact ih _ _ (by omega) (writeByte_wf m a b (by omega) h)

/-- What a store leaves in memory: the bytes at the address, every other byte as before. -/
theorem memWritten_writeBytes (m : Memory) (a : Nat) (bs : List Byte) :
    MemWritten m (writeBytes m a bs) a bs := by
  constructor
  · intro i b hb
    have hi : i < bs.length := (List.getElem?_eq_some_iff.1 hb).1
    rw [readByte_writeBytes, if_pos (by omega)]
    have : a + i - a = i := by omega
    rw [this, List.getD_eq_getElem?_getD, hb]
    rfl
  · intro x hx
    rw [readByte_writeBytes, if_neg (by omega)]

/-- The memory of the state after reset is in canonical form. -/
theorem reset_mem_wf : Memory.wf State.reset.mem = true := rfl

/-! ### Byte order -/

@[simp] theorem length_leBytes (n v : Nat) : (leBytes n v).length = n := by
  induction n generalizing v with
  | zero => rfl
  | succ n ih => simp [leBytes, ih]

@[simp] theorem length_valueBytes (little : Bool) (n v : Nat) :
    (valueBytes little n v).length = n := by
  unfold valueBytes beBytes
  split <;> simp

theorem leValue_leBytes (n v : Nat) : leValue (leBytes n v) = v % 256 ^ n := by
  induction n generalizing v with
  | zero => simp [leBytes, leValue, Nat.mod_one]
  | succ n ih =>
    show (BitVec.ofNat 8 v).toNat + 256 * leValue (leBytes n (v / 256)) = _
    rw [ih, BitVec.toNat_ofNat, show 256 ^ (n + 1) = 256 * 256 ^ n from pow_succ' _ _, Nat.mod_mul]

/-- Reading back the bytes of a value gives its low n bytes, in either byte order. -/
theorem bytesValue_valueBytes (little : Bool) (n v : Nat) :
    bytesValue little (valueBytes little n v) = v % 256 ^ n := by
  unfold bytesValue valueBytes beValue beBytes
  split <;> simp [leValue_leBytes]

theorem leBytes_mod (n v : Nat) : leBytes n (v % 256 ^ n) = leBytes n v := by
  induction n generalizing v with
  | zero => rfl
  | succ n ih =>
    simp only [leBytes]
    have h1 : BitVec.ofNat 8 (v % 256 ^ (n + 1)) = BitVec.ofNat 8 v := by
      apply BitVec.eq_of_toNat_eq
      simp only [BitVec.toNat_ofNat]
      exact Nat.mod_mod_of_dvd _ (Dvd.intro_left (256 ^ n) (by rw [← pow_succ]))
    have h2 : v % 256 ^ (n + 1) / 256 = v / 256 % 256 ^ n := by
      rw [pow_succ', Nat.mod_mul_right_div_self]
    rw [h1, h2, ih]

/-- A store of n bytes looks at the low n bytes of the value only. -/
theorem valueBytes_mod (little : Bool) (n v : Nat) :
    valueBytes little n (v % 256 ^ n) = valueBytes little n v := by
  unfold valueBytes beBytes
  rw [leBytes_mod]

theorem leBytes_getElem? (n v k : Nat) (hk : k < n) :
    (leBytes n v)[k]? = some (BitVec.ofNat 8 (v / 256 ^ k)) := by
  induction n generalizing v k with
  | zero => omega
  | succ n ih =>
    cases k with
    | zero => simp [leBytes]
    | succ k =>
      simp only [leBytes, List.getElem?_cons_succ]
      rw [ih _ _ (by omega), Nat.div_div_eq_div_mul, pow_succ']

theorem leBytes_add (n k v : Nat) : leBytes (n + k) v = leBytes n v ++ leBytes k (v / 256 ^ n) := by
  induction n generalizing v with
  | zero => simp [leBytes]
  | succ n ih =>
    have h : n + 1 + k = (n + k) + 1 := by omega
    rw [h]
    simp only [leBytes, List.cons_append]
    rw [ih, Nat.div_div_eq_div_mul, pow_succ']

theorem leValue_append (bs cs : List Byte) :
    leValue (bs ++ cs) = leValue bs + 256 ^ bs.length * leValue cs := by
  induction bs with
  | nil => simp [leValue]
  | cons b bs ih =>
    simp only [List.cons_append, leValue, ih, List.length_cons, pow_succ']
    ring

theorem leValue_lt (bs : List Byte) : leValue bs < 256 ^ bs.length := by
  induction bs with
  | nil => simp [leValue]
  | cons b bs ih =>
    have hb := b.isLt
    simp only [leValue, List.length_cons, pow_succ']
    omega

theorem bytesValue_lt (little : Bool) (bs : List Byte) :
    bytesValue little bs < 256 ^ bs.length := by
  unfold bytesValue beValue
  split
  · exact leValue_lt bs
  · simpa using leValue_lt bs.reverse

end Sys2Proof.Machine
end

