-- ==== Sys2Proof/Laws/State.lean ====
section
/-! SUPPORT. One lemma for each field of the state and each update: what the field holds afterwards. -/

namespace Sys2Proof.Machine

open Sys2Proof.Config

/-! ### Frames: the fields each compound update may change -/

theorem State.setF64_frame (s : State) (n : BitVec 6) (v : BitVec 64) :
    s.setF64 n v = { s with f := (s.setF64 n v).f } := rfl

theorem State.setF128_frame (s : State) (n : BitVec 6) (v : BitVec 128) :
    s.setF128 n v = { s with f := (s.setF128 n v).f } := rfl

theorem State.writeReg_frame (s : State) (r : Reg) (v : Word) :
    s.writeReg r v = { s with
      globals := (s.writeReg r v).globals
      altGlobals := (s.writeReg r v).altGlobals
      locals := (s.writeReg r v).locals
      ins := (s.writeReg r v).ins } := by
  unfold State.writeReg
  split
  · rfl
  · split <;> (try split) <;> rfl

theorem recordFp_frame (s : State) (e : Exc) : recordFp e s = { s with fsr := (recordFp e s).fsr } := by
  unfold recordFp; split <;> rfl

theorem State.copyF_frame (s : State) (size : FpSize) (rd rs2 : Reg) :
    s.copyF size rd rs2 = { s with
      f := (s.copyF size rd rs2).f
      fprs := (s.copyF size rd rs2).fprs } := by
  have key : ∀ (x : State) (m : BitVec 6), x = { s with f := x.f } →
      x.markDirty m = { s with f := (x.markDirty m).f, fprs := (x.markDirty m).fprs } := by
    intro x m h
    generalize x.f = f at h
    subst h
    rfl
  cases size
  · exact key (s.setF32 _ _) _ rfl
  · exact key (s.setF64 _ _) _ (State.setF64_frame ..)
  · exact key (s.setF128 _ _) _ (State.setF128_frame ..)

theorem State.loadPair_frame (s : State) (k : BitVec 8) (a : Word) (rd : Reg) :
    s.loadPair k a rd = { s with
      globals := (s.loadPair k a rd).globals
      altGlobals := (s.loadPair k a rd).altGlobals
      locals := (s.loadPair k a rd).locals
      ins := (s.loadPair k a rd).ins } := by
  unfold State.loadPair
  rw [State.writeReg_frame, State.writeReg_frame s]

theorem State.storePair_frame (s : State) (k : BitVec 8) (a x y : Word) :
    s.storePair k a x y = { s with mem := (s.storePair k a x y).mem } := rfl

/-! ### advance -/

@[simp] theorem State.advance_params (s : State) :
    s.advance.params = s.params := rfl

@[simp] theorem State.advance_launch (s : State) :
    s.advance.launch = s.launch := rfl

@[simp] theorem State.advance_pc (s : State) :
    s.advance.pc = s.npc := rfl

@[simp] theorem State.advance_npc (s : State) :
    s.advance.npc = s.npc + 4 := rfl

@[simp] theorem State.advance_globals (s : State) :
    s.advance.globals = s.globals := rfl

@[simp] theorem State.advance_altGlobals (s : State) :
    s.advance.altGlobals = s.altGlobals := rfl

@[simp] theorem State.advance_locals (s : State) :
    s.advance.locals = s.locals := rfl

@[simp] theorem State.advance_ins (s : State) :
    s.advance.ins = s.ins := rfl

@[simp] theorem State.advance_ccr (s : State) :
    s.advance.ccr = s.ccr := rfl

@[simp] theorem State.advance_y (s : State) :
    s.advance.y = s.y := rfl

@[simp] theorem State.advance_asi (s : State) :
    s.advance.asi = s.asi := rfl

@[simp] theorem State.advance_tick (s : State) :
    s.advance.tick = s.tick := rfl

@[simp] theorem State.advance_fprs (s : State) :
    s.advance.fprs = s.fprs := rfl

@[simp] theorem State.advance_f (s : State) :
    s.advance.f = s.f := rfl

@[simp] theorem State.advance_fsr (s : State) :
    s.advance.fsr = s.fsr := rfl

@[simp] theorem State.advance_pstate (s : State) :
    s.advance.pstate = s.pstate := rfl

@[simp] theorem State.advance_tl (s : State) :
    s.advance.tl = s.tl := rfl

@[simp] theorem State.advance_trapStack (s : State) :
    s.advance.trapStack = s.trapStack := rfl

@[simp] theorem State.advance_tba (s : State) :
    s.advance.tba = s.tba := rfl

@[simp] theorem State.advance_pil (s : State) :
    s.advance.pil = s.pil := rfl

@[simp] theorem State.advance_cwp (s : State) :
    s.advance.cwp = s.cwp := rfl

@[simp] theorem State.advance_cansave (s : State) :
    s.advance.cansave = s.cansave := rfl

@[simp] theorem State.advance_canrestore (s : State) :
    s.advance.canrestore = s.canrestore := rfl

@[simp] theorem State.advance_cleanwin (s : State) :
    s.advance.cleanwin = s.cleanwin := rfl

@[simp] theorem State.advance_otherwin (s : State) :
    s.advance.otherwin = s.otherwin := rfl

@[simp] theorem State.advance_wstate (s : State) :
    s.advance.wstate = s.wstate := rfl

@[simp] theorem State.advance_sirEnable (s : State) :
    s.advance.sirEnable = s.sirEnable := rfl

@[simp] theorem State.advance_errorState (s : State) :
    s.advance.errorState = s.errorState := rfl

@[simp] theorem State.advance_draws (s : State) :
    s.advance.draws = s.draws := rfl

@[simp] theorem State.advance_mem (s : State) :
    s.advance.mem = s.mem := rfl

/-! ### setPcs -/

@[simp] theorem State.setPcs_params (s : State) (pc npc : Word) :
    (s.setPcs pc npc).params = s.params := rfl

@[simp] theorem State.setPcs_launch (s : State) (pc npc : Word) :
    (s.setPcs pc npc).launch = s.launch := rfl

@[simp] theorem State.setPcs_pc (s : State) (pc npc : Word) :
    (s.setPcs pc npc).pc = pc := rfl

@[simp] theorem State.setPcs_npc (s : State) (pc npc : Word) :
    (s.setPcs pc npc).npc = npc := rfl

@[simp] theorem State.setPcs_globals (s : State) (pc npc : Word) :
    (s.setPcs pc npc).globals = s.globals := rfl

@[simp] theorem State.setPcs_altGlobals (s : State) (pc npc : Word) :
    (s.setPcs pc npc).altGlobals = s.altGlobals := rfl

@[simp] theorem State.setPcs_locals (s : State) (pc npc : Word) :
    (s.setPcs pc npc).locals = s.locals := rfl

@[simp] theorem State.setPcs_ins (s : State) (pc npc : Word) :
    (s.setPcs pc npc).ins = s.ins := rfl

@[simp] theorem State.setPcs_ccr (s : State) (pc npc : Word) :
    (s.setPcs pc npc).ccr = s.ccr := rfl

@[simp] theorem State.setPcs_y (s : State) (pc npc : Word) :
    (s.setPcs pc npc).y = s.y := rfl

@[simp] theorem State.setPcs_asi (s : State) (pc npc : Word) :
    (s.setPcs pc npc).asi = s.asi := rfl

@[simp] theorem State.setPcs_tick (s : State) (pc npc : Word) :
    (s.setPcs pc npc).tick = s.tick := rfl

@[simp] theorem State.setPcs_fprs (s : State) (pc npc : Word) :
    (s.setPcs pc npc).fprs = s.fprs := rfl

@[simp] theorem State.setPcs_f (s : State) (pc npc : Word) :
    (s.setPcs pc npc).f = s.f := rfl

@[simp] theorem State.setPcs_fsr (s : State) (pc npc : Word) :
    (s.setPcs pc npc).fsr = s.fsr := rfl

@[simp] theorem State.setPcs_pstate (s : State) (pc npc : Word) :
    (s.setPcs pc npc).pstate = s.pstate := rfl

@[simp] theorem State.setPcs_tl (s : State) (pc npc : Word) :
    (s.setPcs pc npc).tl = s.tl := rfl

@[simp] theorem State.setPcs_trapStack (s : State) (pc npc : Word) :
    (s.setPcs pc npc).trapStack = s.trapStack := rfl

@[simp] theorem State.setPcs_tba (s : State) (pc npc : Word) :
    (s.setPcs pc npc).tba = s.tba := rfl

@[simp] theorem State.setPcs_pil (s : State) (pc npc : Word) :
    (s.setPcs pc npc).pil = s.pil := rfl

@[simp] theorem State.setPcs_cwp (s : State) (pc npc : Word) :
    (s.setPcs pc npc).cwp = s.cwp := rfl

@[simp] theorem State.setPcs_cansave (s : State) (pc npc : Word) :
    (s.setPcs pc npc).cansave = s.cansave := rfl

@[simp] theorem State.setPcs_canrestore (s : State) (pc npc : Word) :
    (s.setPcs pc npc).canrestore = s.canrestore := rfl

@[simp] theorem State.setPcs_cleanwin (s : State) (pc npc : Word) :
    (s.setPcs pc npc).cleanwin = s.cleanwin := rfl

@[simp] theorem State.setPcs_otherwin (s : State) (pc npc : Word) :
    (s.setPcs pc npc).otherwin = s.otherwin := rfl

@[simp] theorem State.setPcs_wstate (s : State) (pc npc : Word) :
    (s.setPcs pc npc).wstate = s.wstate := rfl

@[simp] theorem State.setPcs_sirEnable (s : State) (pc npc : Word) :
    (s.setPcs pc npc).sirEnable = s.sirEnable := rfl

@[simp] theorem State.setPcs_errorState (s : State) (pc npc : Word) :
    (s.setPcs pc npc).errorState = s.errorState := rfl

@[simp] theorem State.setPcs_draws (s : State) (pc npc : Word) :
    (s.setPcs pc npc).draws = s.draws := rfl

@[simp] theorem State.setPcs_mem (s : State) (pc npc : Word) :
    (s.setPcs pc npc).mem = s.mem := rfl

/-! ### setFWord -/

@[simp] theorem State.setFWord_params (s : State) (n : BitVec 6) (v : BitVec 32) :
    (s.setFWord n v).params = s.params := rfl

@[simp] theorem State.setFWord_launch (s : State) (n : BitVec 6) (v : BitVec 32) :
    (s.setFWord n v).launch = s.launch := rfl

@[simp] theorem State.setFWord_pc (s : State) (n : BitVec 6) (v : BitVec 32) :
    (s.setFWord n v).pc = s.pc := rfl

@[simp] theorem State.setFWord_npc (s : State) (n : BitVec 6) (v : BitVec 32) :
    (s.setFWord n v).npc = s.npc := rfl

@[simp] theorem State.setFWord_globals (s : State) (n : BitVec 6) (v : BitVec 32) :
    (s.setFWord n v).globals = s.globals := rfl

@[simp] theorem State.setFWord_altGlobals (s : State) (n : BitVec 6) (v : BitVec 32) :
    (s.setFWord n v).altGlobals = s.altGlobals := rfl

@[simp] theorem State.setFWord_locals (s : State) (n : BitVec 6) (v : BitVec 32) :
    (s.setFWord n v).locals = s.locals := rfl

@[simp] theorem State.setFWord_ins (s : State) (n : BitVec 6) (v : BitVec 32) :
    (s.setFWord n v).ins = s.ins := rfl

@[simp] theorem State.setFWord_ccr (s : State) (n : BitVec 6) (v : BitVec 32) :
    (s.setFWord n v).ccr = s.ccr := rfl

@[simp] theorem State.setFWord_y (s : State) (n : BitVec 6) (v : BitVec 32) :
    (s.setFWord n v).y = s.y := rfl

@[simp] theorem State.setFWord_asi (s : State) (n : BitVec 6) (v : BitVec 32) :
    (s.setFWord n v).asi = s.asi := rfl

@[simp] theorem State.setFWord_tick (s : State) (n : BitVec 6) (v : BitVec 32) :
    (s.setFWord n v).tick = s.tick := rfl

@[simp] theorem State.setFWord_fprs (s : State) (n : BitVec 6) (v : BitVec 32) :
    (s.setFWord n v).fprs = s.fprs := rfl

@[simp] theorem State.setFWord_f (s : State) (n : BitVec 6) (v : BitVec 32) :
    (s.setFWord n v).f = s.f.set (fIndex n) v := rfl

@[simp] theorem State.setFWord_fsr (s : State) (n : BitVec 6) (v : BitVec 32) :
    (s.setFWord n v).fsr = s.fsr := rfl

@[simp] theorem State.setFWord_pstate (s : State) (n : BitVec 6) (v : BitVec 32) :
    (s.setFWord n v).pstate = s.pstate := rfl

@[simp] theorem State.setFWord_tl (s : State) (n : BitVec 6) (v : BitVec 32) :
    (s.setFWord n v).tl = s.tl := rfl

@[simp] theorem State.setFWord_trapStack (s : State) (n : BitVec 6) (v : BitVec 32) :
    (s.setFWord n v).trapStack = s.trapStack := rfl

@[simp] theorem State.setFWord_tba (s : State) (n : BitVec 6) (v : BitVec 32) :
    (s.setFWord n v).tba = s.tba := rfl

@[simp] theorem State.setFWord_pil (s : State) (n : BitVec 6) (v : BitVec 32) :
    (s.setFWord n v).pil = s.pil := rfl

@[simp] theorem State.setFWord_cwp (s : State) (n : BitVec 6) (v : BitVec 32) :
    (s.setFWord n v).cwp = s.cwp := rfl

@[simp] theorem State.setFWord_cansave (s : State) (n : BitVec 6) (v : BitVec 32) :
    (s.setFWord n v).cansave = s.cansave := rfl

@[simp] theorem State.setFWord_canrestore (s : State) (n : BitVec 6) (v : BitVec 32) :
    (s.setFWord n v).canrestore = s.canrestore := rfl

@[simp] theorem State.setFWord_cleanwin (s : State) (n : BitVec 6) (v : BitVec 32) :
    (s.setFWord n v).cleanwin = s.cleanwin := rfl

@[simp] theorem State.setFWord_otherwin (s : State) (n : BitVec 6) (v : BitVec 32) :
    (s.setFWord n v).otherwin = s.otherwin := rfl

@[simp] theorem State.setFWord_wstate (s : State) (n : BitVec 6) (v : BitVec 32) :
    (s.setFWord n v).wstate = s.wstate := rfl

@[simp] theorem State.setFWord_sirEnable (s : State) (n : BitVec 6) (v : BitVec 32) :
    (s.setFWord n v).sirEnable = s.sirEnable := rfl

@[simp] theorem State.setFWord_errorState (s : State) (n : BitVec 6) (v : BitVec 32) :
    (s.setFWord n v).errorState = s.errorState := rfl

@[simp] theorem State.setFWord_draws (s : State) (n : BitVec 6) (v : BitVec 32) :
    (s.setFWord n v).draws = s.draws := rfl

@[simp] theorem State.setFWord_mem (s : State) (n : BitVec 6) (v : BitVec 32) :
    (s.setFWord n v).mem = s.mem := rfl

/-! ### setF32 -/

@[simp] theorem State.setF32_params (s : State) (n : BitVec 6) (v : BitVec 32) :
    (s.setF32 n v).params = s.params := rfl

@[simp] theorem State.setF32_launch (s : State) (n : BitVec 6) (v : BitVec 32) :
    (s.setF32 n v).launch = s.launch := rfl

@[simp] theorem State.setF32_pc (s : State) (n : BitVec 6) (v : BitVec 32) :
    (s.setF32 n v).pc = s.pc := rfl

@[simp] theorem State.setF32_npc (s : State) (n : BitVec 6) (v : BitVec 32) :
    (s.setF32 n v).npc = s.npc := rfl

@[simp] theorem State.setF32_globals (s : State) (n : BitVec 6) (v : BitVec 32) :
    (s.setF32 n v).globals = s.globals := rfl

@[simp] theorem State.setF32_altGlobals (s : State) (n : BitVec 6) (v : BitVec 32) :
    (s.setF32 n v).altGlobals = s.altGlobals := rfl

@[simp] theorem State.setF32_locals (s : State) (n : BitVec 6) (v : BitVec 32) :
    (s.setF32 n v).locals = s.locals := rfl

@[simp] theorem State.setF32_ins (s : State) (n : BitVec 6) (v : BitVec 32) :
    (s.setF32 n v).ins = s.ins := rfl

@[simp] theorem State.setF32_ccr (s : State) (n : BitVec 6) (v : BitVec 32) :
    (s.setF32 n v).ccr = s.ccr := rfl

@[simp] theorem State.setF32_y (s : State) (n : BitVec 6) (v : BitVec 32) :
    (s.setF32 n v).y = s.y := rfl

@[simp] theorem State.setF32_asi (s : State) (n : BitVec 6) (v : BitVec 32) :
    (s.setF32 n v).asi = s.asi := rfl

@[simp] theorem State.setF32_tick (s : State) (n : BitVec 6) (v : BitVec 32) :
    (s.setF32 n v).tick = s.tick := rfl

@[simp] theorem State.setF32_fprs (s : State) (n : BitVec 6) (v : BitVec 32) :
    (s.setF32 n v).fprs = s.fprs := rfl

@[simp] theorem State.setF32_f (s : State) (n : BitVec 6) (v : BitVec 32) :
    (s.setF32 n v).f = s.f.set (fIndex n) v := rfl

@[simp] theorem State.setF32_fsr (s : State) (n : BitVec 6) (v : BitVec 32) :
    (s.setF32 n v).fsr = s.fsr := rfl

@[simp] theorem State.setF32_pstate (s : State) (n : BitVec 6) (v : BitVec 32) :
    (s.setF32 n v).pstate = s.pstate := rfl

@[simp] theorem State.setF32_tl (s : State) (n : BitVec 6) (v : BitVec 32) :
    (s.setF32 n v).tl = s.tl := rfl

@[simp] theorem State.setF32_trapStack (s : State) (n : BitVec 6) (v : BitVec 32) :
    (s.setF32 n v).trapStack = s.trapStack := rfl

@[simp] theorem State.setF32_tba (s : State) (n : BitVec 6) (v : BitVec 32) :
    (s.setF32 n v).tba = s.tba := rfl

@[simp] theorem State.setF32_pil (s : State) (n : BitVec 6) (v : BitVec 32) :
    (s.setF32 n v).pil = s.pil := rfl

@[simp] theorem State.setF32_cwp (s : State) (n : BitVec 6) (v : BitVec 32) :
    (s.setF32 n v).cwp = s.cwp := rfl

@[simp] theorem State.setF32_cansave (s : State) (n : BitVec 6) (v : BitVec 32) :
    (s.setF32 n v).cansave = s.cansave := rfl

@[simp] theorem State.setF32_canrestore (s : State) (n : BitVec 6) (v : BitVec 32) :
    (s.setF32 n v).canrestore = s.canrestore := rfl

@[simp] theorem State.setF32_cleanwin (s : State) (n : BitVec 6) (v : BitVec 32) :
    (s.setF32 n v).cleanwin = s.cleanwin := rfl

@[simp] theorem State.setF32_otherwin (s : State) (n : BitVec 6) (v : BitVec 32) :
    (s.setF32 n v).otherwin = s.otherwin := rfl

@[simp] theorem State.setF32_wstate (s : State) (n : BitVec 6) (v : BitVec 32) :
    (s.setF32 n v).wstate = s.wstate := rfl

@[simp] theorem State.setF32_sirEnable (s : State) (n : BitVec 6) (v : BitVec 32) :
    (s.setF32 n v).sirEnable = s.sirEnable := rfl

@[simp] theorem State.setF32_errorState (s : State) (n : BitVec 6) (v : BitVec 32) :
    (s.setF32 n v).errorState = s.errorState := rfl

@[simp] theorem State.setF32_draws (s : State) (n : BitVec 6) (v : BitVec 32) :
    (s.setF32 n v).draws = s.draws := rfl

@[simp] theorem State.setF32_mem (s : State) (n : BitVec 6) (v : BitVec 32) :
    (s.setF32 n v).mem = s.mem := rfl

/-! ### setF64 -/

@[simp] theorem State.setF64_params (s : State) (n : BitVec 6) (v : BitVec 64) :
    (s.setF64 n v).params = s.params := by rw [State.setF64_frame]

@[simp] theorem State.setF64_launch (s : State) (n : BitVec 6) (v : BitVec 64) :
    (s.setF64 n v).launch = s.launch := by rw [State.setF64_frame]

@[simp] theorem State.setF64_pc (s : State) (n : BitVec 6) (v : BitVec 64) :
    (s.setF64 n v).pc = s.pc := by rw [State.setF64_frame]

@[simp] theorem State.setF64_npc (s : State) (n : BitVec 6) (v : BitVec 64) :
    (s.setF64 n v).npc = s.npc := by rw [State.setF64_frame]

@[simp] theorem State.setF64_globals (s : State) (n : BitVec 6) (v : BitVec 64) :
    (s.setF64 n v).globals = s.globals := by rw [State.setF64_frame]

@[simp] theorem State.setF64_altGlobals (s : State) (n : BitVec 6) (v : BitVec 64) :
    (s.setF64 n v).altGlobals = s.altGlobals := by rw [State.setF64_frame]

@[simp] theorem State.setF64_locals (s : State) (n : BitVec 6) (v : BitVec 64) :
    (s.setF64 n v).locals = s.locals := by rw [State.setF64_frame]

@[simp] theorem State.setF64_ins (s : State) (n : BitVec 6) (v : BitVec 64) :
    (s.setF64 n v).ins = s.ins := by rw [State.setF64_frame]

@[simp] theorem State.setF64_ccr (s : State) (n : BitVec 6) (v : BitVec 64) :
    (s.setF64 n v).ccr = s.ccr := by rw [State.setF64_frame]

@[simp] theorem State.setF64_y (s : State) (n : BitVec 6) (v : BitVec 64) :
    (s.setF64 n v).y = s.y := by rw [State.setF64_frame]

@[simp] theorem State.setF64_asi (s : State) (n : BitVec 6) (v : BitVec 64) :
    (s.setF64 n v).asi = s.asi := by rw [State.setF64_frame]

@[simp] theorem State.setF64_tick (s : State) (n : BitVec 6) (v : BitVec 64) :
    (s.setF64 n v).tick = s.tick := by rw [State.setF64_frame]

@[simp] theorem State.setF64_fprs (s : State) (n : BitVec 6) (v : BitVec 64) :
    (s.setF64 n v).fprs = s.fprs := by rw [State.setF64_frame]

@[simp] theorem State.setF64_fsr (s : State) (n : BitVec 6) (v : BitVec 64) :
    (s.setF64 n v).fsr = s.fsr := by rw [State.setF64_frame]

@[simp] theorem State.setF64_pstate (s : State) (n : BitVec 6) (v : BitVec 64) :
    (s.setF64 n v).pstate = s.pstate := by rw [State.setF64_frame]

@[simp] theorem State.setF64_tl (s : State) (n : BitVec 6) (v : BitVec 64) :
    (s.setF64 n v).tl = s.tl := by rw [State.setF64_frame]

@[simp] theorem State.setF64_trapStack (s : State) (n : BitVec 6) (v : BitVec 64) :
    (s.setF64 n v).trapStack = s.trapStack := by rw [State.setF64_frame]

@[simp] theorem State.setF64_tba (s : State) (n : BitVec 6) (v : BitVec 64) :
    (s.setF64 n v).tba = s.tba := by rw [State.setF64_frame]

@[simp] theorem State.setF64_pil (s : State) (n : BitVec 6) (v : BitVec 64) :
    (s.setF64 n v).pil = s.pil := by rw [State.setF64_frame]

@[simp] theorem State.setF64_cwp (s : State) (n : BitVec 6) (v : BitVec 64) :
    (s.setF64 n v).cwp = s.cwp := by rw [State.setF64_frame]

@[simp] theorem State.setF64_cansave (s : State) (n : BitVec 6) (v : BitVec 64) :
    (s.setF64 n v).cansave = s.cansave := by rw [State.setF64_frame]

@[simp] theorem State.setF64_canrestore (s : State) (n : BitVec 6) (v : BitVec 64) :
    (s.setF64 n v).canrestore = s.canrestore := by rw [State.setF64_frame]

@[simp] theorem State.setF64_cleanwin (s : State) (n : BitVec 6) (v : BitVec 64) :
    (s.setF64 n v).cleanwin = s.cleanwin := by rw [State.setF64_frame]

@[simp] theorem State.setF64_otherwin (s : State) (n : BitVec 6) (v : BitVec 64) :
    (s.setF64 n v).otherwin = s.otherwin := by rw [State.setF64_frame]

@[simp] theorem State.setF64_wstate (s : State) (n : BitVec 6) (v : BitVec 64) :
    (s.setF64 n v).wstate = s.wstate := by rw [State.setF64_frame]

@[simp] theorem State.setF64_sirEnable (s : State) (n : BitVec 6) (v : BitVec 64) :
    (s.setF64 n v).sirEnable = s.sirEnable := by rw [State.setF64_frame]

@[simp] theorem State.setF64_errorState (s : State) (n : BitVec 6) (v : BitVec 64) :
    (s.setF64 n v).errorState = s.errorState := by rw [State.setF64_frame]

@[simp] theorem State.setF64_draws (s : State) (n : BitVec 6) (v : BitVec 64) :
    (s.setF64 n v).draws = s.draws := by rw [State.setF64_frame]

@[simp] theorem State.setF64_mem (s : State) (n : BitVec 6) (v : BitVec 64) :
    (s.setF64 n v).mem = s.mem := by rw [State.setF64_frame]

/-! ### setF128 -/

@[simp] theorem State.setF128_params (s : State) (n : BitVec 6) (v : BitVec 128) :
    (s.setF128 n v).params = s.params := by rw [State.setF128_frame]

@[simp] theorem State.setF128_launch (s : State) (n : BitVec 6) (v : BitVec 128) :
    (s.setF128 n v).launch = s.launch := by rw [State.setF128_frame]

@[simp] theorem State.setF128_pc (s : State) (n : BitVec 6) (v : BitVec 128) :
    (s.setF128 n v).pc = s.pc := by rw [State.setF128_frame]

@[simp] theorem State.setF128_npc (s : State) (n : BitVec 6) (v : BitVec 128) :
    (s.setF128 n v).npc = s.npc := by rw [State.setF128_frame]

@[simp] theorem State.setF128_globals (s : State) (n : BitVec 6) (v : BitVec 128) :
    (s.setF128 n v).globals = s.globals := by rw [State.setF128_frame]

@[simp] theorem State.setF128_altGlobals (s : State) (n : BitVec 6) (v : BitVec 128) :
    (s.setF128 n v).altGlobals = s.altGlobals := by rw [State.setF128_frame]

@[simp] theorem State.setF128_locals (s : State) (n : BitVec 6) (v : BitVec 128) :
    (s.setF128 n v).locals = s.locals := by rw [State.setF128_frame]

@[simp] theorem State.setF128_ins (s : State) (n : BitVec 6) (v : BitVec 128) :
    (s.setF128 n v).ins = s.ins := by rw [State.setF128_frame]

@[simp] theorem State.setF128_ccr (s : State) (n : BitVec 6) (v : BitVec 128) :
    (s.setF128 n v).ccr = s.ccr := by rw [State.setF128_frame]

@[simp] theorem State.setF128_y (s : State) (n : BitVec 6) (v : BitVec 128) :
    (s.setF128 n v).y = s.y := by rw [State.setF128_frame]

@[simp] theorem State.setF128_asi (s : State) (n : BitVec 6) (v : BitVec 128) :
    (s.setF128 n v).asi = s.asi := by rw [State.setF128_frame]

@[simp] theorem State.setF128_tick (s : State) (n : BitVec 6) (v : BitVec 128) :
    (s.setF128 n v).tick = s.tick := by rw [State.setF128_frame]

@[simp] theorem State.setF128_fprs (s : State) (n : BitVec 6) (v : BitVec 128) :
    (s.setF128 n v).fprs = s.fprs := by rw [State.setF128_frame]

@[simp] theorem State.setF128_fsr (s : State) (n : BitVec 6) (v : BitVec 128) :
    (s.setF128 n v).fsr = s.fsr := by rw [State.setF128_frame]

@[simp] theorem State.setF128_pstate (s : State) (n : BitVec 6) (v : BitVec 128) :
    (s.setF128 n v).pstate = s.pstate := by rw [State.setF128_frame]

@[simp] theorem State.setF128_tl (s : State) (n : BitVec 6) (v : BitVec 128) :
    (s.setF128 n v).tl = s.tl := by rw [State.setF128_frame]

@[simp] theorem State.setF128_trapStack (s : State) (n : BitVec 6) (v : BitVec 128) :
    (s.setF128 n v).trapStack = s.trapStack := by rw [State.setF128_frame]

@[simp] theorem State.setF128_tba (s : State) (n : BitVec 6) (v : BitVec 128) :
    (s.setF128 n v).tba = s.tba := by rw [State.setF128_frame]

@[simp] theorem State.setF128_pil (s : State) (n : BitVec 6) (v : BitVec 128) :
    (s.setF128 n v).pil = s.pil := by rw [State.setF128_frame]

@[simp] theorem State.setF128_cwp (s : State) (n : BitVec 6) (v : BitVec 128) :
    (s.setF128 n v).cwp = s.cwp := by rw [State.setF128_frame]

@[simp] theorem State.setF128_cansave (s : State) (n : BitVec 6) (v : BitVec 128) :
    (s.setF128 n v).cansave = s.cansave := by rw [State.setF128_frame]

@[simp] theorem State.setF128_canrestore (s : State) (n : BitVec 6) (v : BitVec 128) :
    (s.setF128 n v).canrestore = s.canrestore := by rw [State.setF128_frame]

@[simp] theorem State.setF128_cleanwin (s : State) (n : BitVec 6) (v : BitVec 128) :
    (s.setF128 n v).cleanwin = s.cleanwin := by rw [State.setF128_frame]

@[simp] theorem State.setF128_otherwin (s : State) (n : BitVec 6) (v : BitVec 128) :
    (s.setF128 n v).otherwin = s.otherwin := by rw [State.setF128_frame]

@[simp] theorem State.setF128_wstate (s : State) (n : BitVec 6) (v : BitVec 128) :
    (s.setF128 n v).wstate = s.wstate := by rw [State.setF128_frame]

@[simp] theorem State.setF128_sirEnable (s : State) (n : BitVec 6) (v : BitVec 128) :
    (s.setF128 n v).sirEnable = s.sirEnable := by rw [State.setF128_frame]

@[simp] theorem State.setF128_errorState (s : State) (n : BitVec 6) (v : BitVec 128) :
    (s.setF128 n v).errorState = s.errorState := by rw [State.setF128_frame]

@[simp] theorem State.setF128_draws (s : State) (n : BitVec 6) (v : BitVec 128) :
    (s.setF128 n v).draws = s.draws := by rw [State.setF128_frame]

@[simp] theorem State.setF128_mem (s : State) (n : BitVec 6) (v : BitVec 128) :
    (s.setF128 n v).mem = s.mem := by rw [State.setF128_frame]

/-! ### markDirty -/

@[simp] theorem State.markDirty_params (s : State) (n : BitVec 6) :
    (s.markDirty n).params = s.params := rfl

@[simp] theorem State.markDirty_launch (s : State) (n : BitVec 6) :
    (s.markDirty n).launch = s.launch := rfl

@[simp] theorem State.markDirty_pc (s : State) (n : BitVec 6) :
    (s.markDirty n).pc = s.pc := rfl

@[simp] theorem State.markDirty_npc (s : State) (n : BitVec 6) :
    (s.markDirty n).npc = s.npc := rfl

@[simp] theorem State.markDirty_globals (s : State) (n : BitVec 6) :
    (s.markDirty n).globals = s.globals := rfl

@[simp] theorem State.markDirty_altGlobals (s : State) (n : BitVec 6) :
    (s.markDirty n).altGlobals = s.altGlobals := rfl

@[simp] theorem State.markDirty_locals (s : State) (n : BitVec 6) :
    (s.markDirty n).locals = s.locals := rfl

@[simp] theorem State.markDirty_ins (s : State) (n : BitVec 6) :
    (s.markDirty n).ins = s.ins := rfl

@[simp] theorem State.markDirty_ccr (s : State) (n : BitVec 6) :
    (s.markDirty n).ccr = s.ccr := rfl

@[simp] theorem State.markDirty_y (s : State) (n : BitVec 6) :
    (s.markDirty n).y = s.y := rfl

@[simp] theorem State.markDirty_asi (s : State) (n : BitVec 6) :
    (s.markDirty n).asi = s.asi := rfl

@[simp] theorem State.markDirty_tick (s : State) (n : BitVec 6) :
    (s.markDirty n).tick = s.tick := rfl

@[simp] theorem State.markDirty_fprs (s : State) (n : BitVec 6) :
    (s.markDirty n).fprs = s.fprs ||| (if n.toNat < 32 then 0b001 else 0b010) := rfl

@[simp] theorem State.markDirty_f (s : State) (n : BitVec 6) :
    (s.markDirty n).f = s.f := rfl

@[simp] theorem State.markDirty_fsr (s : State) (n : BitVec 6) :
    (s.markDirty n).fsr = s.fsr := rfl

@[simp] theorem State.markDirty_pstate (s : State) (n : BitVec 6) :
    (s.markDirty n).pstate = s.pstate := rfl

@[simp] theorem State.markDirty_tl (s : State) (n : BitVec 6) :
    (s.markDirty n).tl = s.tl := rfl

@[simp] theorem State.markDirty_trapStack (s : State) (n : BitVec 6) :
    (s.markDirty n).trapStack = s.trapStack := rfl

@[simp] theorem State.markDirty_tba (s : State) (n : BitVec 6) :
    (s.markDirty n).tba = s.tba := rfl

@[simp] theorem State.markDirty_pil (s : State) (n : BitVec 6) :
    (s.markDirty n).pil = s.pil := rfl

@[simp] theorem State.markDirty_cwp (s : State) (n : BitVec 6) :
    (s.markDirty n).cwp = s.cwp := rfl

@[simp] theorem State.markDirty_cansave (s : State) (n : BitVec 6) :
    (s.markDirty n).cansave = s.cansave := rfl

@[simp] theorem State.markDirty_canrestore (s : State) (n : BitVec 6) :
    (s.markDirty n).canrestore = s.canrestore := rfl

@[simp] theorem State.markDirty_cleanwin (s : State) (n : BitVec 6) :
    (s.markDirty n).cleanwin = s.cleanwin := rfl

@[simp] theorem State.markDirty_otherwin (s : State) (n : BitVec 6) :
    (s.markDirty n).otherwin = s.otherwin := rfl

@[simp] theorem State.markDirty_wstate (s : State) (n : BitVec 6) :
    (s.markDirty n).wstate = s.wstate := rfl

@[simp] theorem State.markDirty_sirEnable (s : State) (n : BitVec 6) :
    (s.markDirty n).sirEnable = s.sirEnable := rfl

@[simp] theorem State.markDirty_errorState (s : State) (n : BitVec 6) :
    (s.markDirty n).errorState = s.errorState := rfl

@[simp] theorem State.markDirty_draws (s : State) (n : BitVec 6) :
    (s.markDirty n).draws = s.draws := rfl

@[simp] theorem State.markDirty_mem (s : State) (n : BitVec 6) :
    (s.markDirty n).mem = s.mem := rfl

/-! ### setTrapRegs -/

@[simp] theorem State.setTrapRegs_params (s : State) (l : BitVec 3) (r : TrapRegs) :
    (s.setTrapRegs l r).params = s.params := rfl

@[simp] theorem State.setTrapRegs_launch (s : State) (l : BitVec 3) (r : TrapRegs) :
    (s.setTrapRegs l r).launch = s.launch := rfl

@[simp] theorem State.setTrapRegs_pc (s : State) (l : BitVec 3) (r : TrapRegs) :
    (s.setTrapRegs l r).pc = s.pc := rfl

@[simp] theorem State.setTrapRegs_npc (s : State) (l : BitVec 3) (r : TrapRegs) :
    (s.setTrapRegs l r).npc = s.npc := rfl

@[simp] theorem State.setTrapRegs_globals (s : State) (l : BitVec 3) (r : TrapRegs) :
    (s.setTrapRegs l r).globals = s.globals := rfl

@[simp] theorem State.setTrapRegs_altGlobals (s : State) (l : BitVec 3) (r : TrapRegs) :
    (s.setTrapRegs l r).altGlobals = s.altGlobals := rfl

@[simp] theorem State.setTrapRegs_locals (s : State) (l : BitVec 3) (r : TrapRegs) :
    (s.setTrapRegs l r).locals = s.locals := rfl

@[simp] theorem State.setTrapRegs_ins (s : State) (l : BitVec 3) (r : TrapRegs) :
    (s.setTrapRegs l r).ins = s.ins := rfl

@[simp] theorem State.setTrapRegs_ccr (s : State) (l : BitVec 3) (r : TrapRegs) :
    (s.setTrapRegs l r).ccr = s.ccr := rfl

@[simp] theorem State.setTrapRegs_y (s : State) (l : BitVec 3) (r : TrapRegs) :
    (s.setTrapRegs l r).y = s.y := rfl

@[simp] theorem State.setTrapRegs_asi (s : State) (l : BitVec 3) (r : TrapRegs) :
    (s.setTrapRegs l r).asi = s.asi := rfl

@[simp] theorem State.setTrapRegs_tick (s : State) (l : BitVec 3) (r : TrapRegs) :
    (s.setTrapRegs l r).tick = s.tick := rfl

@[simp] theorem State.setTrapRegs_fprs (s : State) (l : BitVec 3) (r : TrapRegs) :
    (s.setTrapRegs l r).fprs = s.fprs := rfl

@[simp] theorem State.setTrapRegs_f (s : State) (l : BitVec 3) (r : TrapRegs) :
    (s.setTrapRegs l r).f = s.f := rfl

@[simp] theorem State.setTrapRegs_fsr (s : State) (l : BitVec 3) (r : TrapRegs) :
    (s.setTrapRegs l r).fsr = s.fsr := rfl

@[simp] theorem State.setTrapRegs_pstate (s : State) (l : BitVec 3) (r : TrapRegs) :
    (s.setTrapRegs l r).pstate = s.pstate := rfl

@[simp] theorem State.setTrapRegs_tl (s : State) (l : BitVec 3) (r : TrapRegs) :
    (s.setTrapRegs l r).tl = s.tl := rfl

@[simp] theorem State.setTrapRegs_trapStack (s : State) (l : BitVec 3) (r : TrapRegs) :
    (s.setTrapRegs l r).trapStack = s.trapStack.set (tlIndex l) r := rfl

@[simp] theorem State.setTrapRegs_tba (s : State) (l : BitVec 3) (r : TrapRegs) :
    (s.setTrapRegs l r).tba = s.tba := rfl

@[simp] theorem State.setTrapRegs_pil (s : State) (l : BitVec 3) (r : TrapRegs) :
    (s.setTrapRegs l r).pil = s.pil := rfl

@[simp] theorem State.setTrapRegs_cwp (s : State) (l : BitVec 3) (r : TrapRegs) :
    (s.setTrapRegs l r).cwp = s.cwp := rfl

@[simp] theorem State.setTrapRegs_cansave (s : State) (l : BitVec 3) (r : TrapRegs) :
    (s.setTrapRegs l r).cansave = s.cansave := rfl

@[simp] theorem State.setTrapRegs_canrestore (s : State) (l : BitVec 3) (r : TrapRegs) :
    (s.setTrapRegs l r).canrestore = s.canrestore := rfl

@[simp] theorem State.setTrapRegs_cleanwin (s : State) (l : BitVec 3) (r : TrapRegs) :
    (s.setTrapRegs l r).cleanwin = s.cleanwin := rfl

@[simp] theorem State.setTrapRegs_otherwin (s : State) (l : BitVec 3) (r : TrapRegs) :
    (s.setTrapRegs l r).otherwin = s.otherwin := rfl

@[simp] theorem State.setTrapRegs_wstate (s : State) (l : BitVec 3) (r : TrapRegs) :
    (s.setTrapRegs l r).wstate = s.wstate := rfl

@[simp] theorem State.setTrapRegs_sirEnable (s : State) (l : BitVec 3) (r : TrapRegs) :
    (s.setTrapRegs l r).sirEnable = s.sirEnable := rfl

@[simp] theorem State.setTrapRegs_errorState (s : State) (l : BitVec 3) (r : TrapRegs) :
    (s.setTrapRegs l r).errorState = s.errorState := rfl

@[simp] theorem State.setTrapRegs_draws (s : State) (l : BitVec 3) (r : TrapRegs) :
    (s.setTrapRegs l r).draws = s.draws := rfl

@[simp] theorem State.setTrapRegs_mem (s : State) (l : BitVec 3) (r : TrapRegs) :
    (s.setTrapRegs l r).mem = s.mem := rfl

/-! ### enterErrorState -/

@[simp] theorem State.enterErrorState_params (s : State) :
    s.enterErrorState.params = s.params := rfl

@[simp] theorem State.enterErrorState_launch (s : State) :
    s.enterErrorState.launch = s.launch := rfl

@[simp] theorem State.enterErrorState_pc (s : State) :
    s.enterErrorState.pc = s.pc := rfl

@[simp] theorem State.enterErrorState_npc (s : State) :
    s.enterErrorState.npc = s.npc := rfl

@[simp] theorem State.enterErrorState_globals (s : State) :
    s.enterErrorState.globals = s.globals := rfl

@[simp] theorem State.enterErrorState_altGlobals (s : State) :
    s.enterErrorState.altGlobals = s.altGlobals := rfl

@[simp] theorem State.enterErrorState_locals (s : State) :
    s.enterErrorState.locals = s.locals := rfl

@[simp] theorem State.enterErrorState_ins (s : State) :
    s.enterErrorState.ins = s.ins := rfl

@[simp] theorem State.enterErrorState_ccr (s : State) :
    s.enterErrorState.ccr = s.ccr := rfl

@[simp] theorem State.enterErrorState_y (s : State) :
    s.enterErrorState.y = s.y := rfl

@[simp] theorem State.enterErrorState_asi (s : State) :
    s.enterErrorState.asi = s.asi := rfl

@[simp] theorem State.enterErrorState_tick (s : State) :
    s.enterErrorState.tick = s.tick := rfl

@[simp] theorem State.enterErrorState_fprs (s : State) :
    s.enterErrorState.fprs = s.fprs := rfl

@[simp] theorem State.enterErrorState_f (s : State) :
    s.enterErrorState.f = s.f := rfl

@[simp] theorem State.enterErrorState_fsr (s : State) :
    s.enterErrorState.fsr = s.fsr := rfl

@[simp] theorem State.enterErrorState_pstate (s : State) :
    s.enterErrorState.pstate = s.pstate := rfl

@[simp] theorem State.enterErrorState_tl (s : State) :
    s.enterErrorState.tl = s.tl := rfl

@[simp] theorem State.enterErrorState_trapStack (s : State) :
    s.enterErrorState.trapStack = s.trapStack := rfl

@[simp] theorem State.enterErrorState_tba (s : State) :
    s.enterErrorState.tba = s.tba := rfl

@[simp] theorem State.enterErrorState_pil (s : State) :
    s.enterErrorState.pil = s.pil := rfl

@[simp] theorem State.enterErrorState_cwp (s : State) :
    s.enterErrorState.cwp = s.cwp := rfl

@[simp] theorem State.enterErrorState_cansave (s : State) :
    s.enterErrorState.cansave = s.cansave := rfl

@[simp] theorem State.enterErrorState_canrestore (s : State) :
    s.enterErrorState.canrestore = s.canrestore := rfl

@[simp] theorem State.enterErrorState_cleanwin (s : State) :
    s.enterErrorState.cleanwin = s.cleanwin := rfl

@[simp] theorem State.enterErrorState_otherwin (s : State) :
    s.enterErrorState.otherwin = s.otherwin := rfl

@[simp] theorem State.enterErrorState_wstate (s : State) :
    s.enterErrorState.wstate = s.wstate := rfl

@[simp] theorem State.enterErrorState_sirEnable (s : State) :
    s.enterErrorState.sirEnable = s.sirEnable := rfl

@[simp] theorem State.enterErrorState_errorState (s : State) :
    s.enterErrorState.errorState = true := rfl

@[simp] theorem State.enterErrorState_draws (s : State) :
    s.enterErrorState.draws = s.draws := rfl

@[simp] theorem State.enterErrorState_mem (s : State) :
    s.enterErrorState.mem = s.mem := rfl

/-! ### drawTick -/

@[simp] theorem State.drawTick_params (s : State) :
    s.drawTick.params = s.params := rfl

@[simp] theorem State.drawTick_launch (s : State) :
    s.drawTick.launch = s.launch := rfl

@[simp] theorem State.drawTick_pc (s : State) :
    s.drawTick.pc = s.pc := rfl

@[simp] theorem State.drawTick_npc (s : State) :
    s.drawTick.npc = s.npc := rfl

@[simp] theorem State.drawTick_globals (s : State) :
    s.drawTick.globals = s.globals := rfl

@[simp] theorem State.drawTick_altGlobals (s : State) :
    s.drawTick.altGlobals = s.altGlobals := rfl

@[simp] theorem State.drawTick_locals (s : State) :
    s.drawTick.locals = s.locals := rfl

@[simp] theorem State.drawTick_ins (s : State) :
    s.drawTick.ins = s.ins := rfl

@[simp] theorem State.drawTick_ccr (s : State) :
    s.drawTick.ccr = s.ccr := rfl

@[simp] theorem State.drawTick_y (s : State) :
    s.drawTick.y = s.y := rfl

@[simp] theorem State.drawTick_asi (s : State) :
    s.drawTick.asi = s.asi := rfl

@[simp] theorem State.drawTick_fprs (s : State) :
    s.drawTick.fprs = s.fprs := rfl

@[simp] theorem State.drawTick_f (s : State) :
    s.drawTick.f = s.f := rfl

@[simp] theorem State.drawTick_fsr (s : State) :
    s.drawTick.fsr = s.fsr := rfl

@[simp] theorem State.drawTick_pstate (s : State) :
    s.drawTick.pstate = s.pstate := rfl

@[simp] theorem State.drawTick_tl (s : State) :
    s.drawTick.tl = s.tl := rfl

@[simp] theorem State.drawTick_trapStack (s : State) :
    s.drawTick.trapStack = s.trapStack := rfl

@[simp] theorem State.drawTick_tba (s : State) :
    s.drawTick.tba = s.tba := rfl

@[simp] theorem State.drawTick_pil (s : State) :
    s.drawTick.pil = s.pil := rfl

@[simp] theorem State.drawTick_cwp (s : State) :
    s.drawTick.cwp = s.cwp := rfl

@[simp] theorem State.drawTick_cansave (s : State) :
    s.drawTick.cansave = s.cansave := rfl

@[simp] theorem State.drawTick_canrestore (s : State) :
    s.drawTick.canrestore = s.canrestore := rfl

@[simp] theorem State.drawTick_cleanwin (s : State) :
    s.drawTick.cleanwin = s.cleanwin := rfl

@[simp] theorem State.drawTick_otherwin (s : State) :
    s.drawTick.otherwin = s.otherwin := rfl

@[simp] theorem State.drawTick_wstate (s : State) :
    s.drawTick.wstate = s.wstate := rfl

@[simp] theorem State.drawTick_sirEnable (s : State) :
    s.drawTick.sirEnable = s.sirEnable := rfl

@[simp] theorem State.drawTick_errorState (s : State) :
    s.drawTick.errorState = s.errorState := rfl

@[simp] theorem State.drawTick_draws (s : State) :
    s.drawTick.draws = s.draws + 1 := rfl

@[simp] theorem State.drawTick_mem (s : State) :
    s.drawTick.mem = s.mem := rfl

/-! ### storeValue -/

@[simp] theorem State.storeValue_params (s : State) (k : BitVec 8) (a : Word) (n v : Nat) :
    (s.storeValue k a n v).params = s.params := rfl

@[simp] theorem State.storeValue_launch (s : State) (k : BitVec 8) (a : Word) (n v : Nat) :
    (s.storeValue k a n v).launch = s.launch := rfl

@[simp] theorem State.storeValue_pc (s : State) (k : BitVec 8) (a : Word) (n v : Nat) :
    (s.storeValue k a n v).pc = s.pc := rfl

@[simp] theorem State.storeValue_npc (s : State) (k : BitVec 8) (a : Word) (n v : Nat) :
    (s.storeValue k a n v).npc = s.npc := rfl

@[simp] theorem State.storeValue_globals (s : State) (k : BitVec 8) (a : Word) (n v : Nat) :
    (s.storeValue k a n v).globals = s.globals := rfl

@[simp] theorem State.storeValue_altGlobals (s : State) (k : BitVec 8) (a : Word) (n v : Nat) :
    (s.storeValue k a n v).altGlobals = s.altGlobals := rfl

@[simp] theorem State.storeValue_locals (s : State) (k : BitVec 8) (a : Word) (n v : Nat) :
    (s.storeValue k a n v).locals = s.locals := rfl

@[simp] theorem State.storeValue_ins (s : State) (k : BitVec 8) (a : Word) (n v : Nat) :
    (s.storeValue k a n v).ins = s.ins := rfl

@[simp] theorem State.storeValue_ccr (s : State) (k : BitVec 8) (a : Word) (n v : Nat) :
    (s.storeValue k a n v).ccr = s.ccr := rfl

@[simp] theorem State.storeValue_y (s : State) (k : BitVec 8) (a : Word) (n v : Nat) :
    (s.storeValue k a n v).y = s.y := rfl

@[simp] theorem State.storeValue_asi (s : State) (k : BitVec 8) (a : Word) (n v : Nat) :
    (s.storeValue k a n v).asi = s.asi := rfl

@[simp] theorem State.storeValue_tick (s : State) (k : BitVec 8) (a : Word) (n v : Nat) :
    (s.storeValue k a n v).tick = s.tick := rfl

@[simp] theorem State.storeValue_fprs (s : State) (k : BitVec 8) (a : Word) (n v : Nat) :
    (s.storeValue k a n v).fprs = s.fprs := rfl

@[simp] theorem State.storeValue_f (s : State) (k : BitVec 8) (a : Word) (n v : Nat) :
    (s.storeValue k a n v).f = s.f := rfl

@[simp] theorem State.storeValue_fsr (s : State) (k : BitVec 8) (a : Word) (n v : Nat) :
    (s.storeValue k a n v).fsr = s.fsr := rfl

@[simp] theorem State.storeValue_pstate (s : State) (k : BitVec 8) (a : Word) (n v : Nat) :
    (s.storeValue k a n v).pstate = s.pstate := rfl

@[simp] theorem State.storeValue_tl (s : State) (k : BitVec 8) (a : Word) (n v : Nat) :
    (s.storeValue k a n v).tl = s.tl := rfl

@[simp] theorem State.storeValue_trapStack (s : State) (k : BitVec 8) (a : Word) (n v : Nat) :
    (s.storeValue k a n v).trapStack = s.trapStack := rfl

@[simp] theorem State.storeValue_tba (s : State) (k : BitVec 8) (a : Word) (n v : Nat) :
    (s.storeValue k a n v).tba = s.tba := rfl

@[simp] theorem State.storeValue_pil (s : State) (k : BitVec 8) (a : Word) (n v : Nat) :
    (s.storeValue k a n v).pil = s.pil := rfl

@[simp] theorem State.storeValue_cwp (s : State) (k : BitVec 8) (a : Word) (n v : Nat) :
    (s.storeValue k a n v).cwp = s.cwp := rfl

@[simp] theorem State.storeValue_cansave (s : State) (k : BitVec 8) (a : Word) (n v : Nat) :
    (s.storeValue k a n v).cansave = s.cansave := rfl

@[simp] theorem State.storeValue_canrestore (s : State) (k : BitVec 8) (a : Word) (n v : Nat) :
    (s.storeValue k a n v).canrestore = s.canrestore := rfl

@[simp] theorem State.storeValue_cleanwin (s : State) (k : BitVec 8) (a : Word) (n v : Nat) :
    (s.storeValue k a n v).cleanwin = s.cleanwin := rfl

@[simp] theorem State.storeValue_otherwin (s : State) (k : BitVec 8) (a : Word) (n v : Nat) :
    (s.storeValue k a n v).otherwin = s.otherwin := rfl

@[simp] theorem State.storeValue_wstate (s : State) (k : BitVec 8) (a : Word) (n v : Nat) :
    (s.storeValue k a n v).wstate = s.wstate := rfl

@[simp] theorem State.storeValue_sirEnable (s : State) (k : BitVec 8) (a : Word) (n v : Nat) :
    (s.storeValue k a n v).sirEnable = s.sirEnable := rfl

@[simp] theorem State.storeValue_errorState (s : State) (k : BitVec 8) (a : Word) (n v : Nat) :
    (s.storeValue k a n v).errorState = s.errorState := rfl

@[simp] theorem State.storeValue_draws (s : State) (k : BitVec 8) (a : Word) (n v : Nat) :
    (s.storeValue k a n v).draws = s.draws := rfl

@[simp] theorem State.storeValue_mem (s : State) (k : BitVec 8) (a : Word) (n v : Nat) :
    (s.storeValue k a n v).mem = writeBytes s.mem a.toNat (valueBytes (littleAsi k) n v) := rfl

/-! ### storePair -/

@[simp] theorem State.storePair_params (s : State) (k : BitVec 8) (a x y : Word) :
    (s.storePair k a x y).params = s.params := by rw [State.storePair_frame]

@[simp] theorem State.storePair_launch (s : State) (k : BitVec 8) (a x y : Word) :
    (s.storePair k a x y).launch = s.launch := by rw [State.storePair_frame]

@[simp] theorem State.storePair_pc (s : State) (k : BitVec 8) (a x y : Word) :
    (s.storePair k a x y).pc = s.pc := by rw [State.storePair_frame]

@[simp] theorem State.storePair_npc (s : State) (k : BitVec 8) (a x y : Word) :
    (s.storePair k a x y).npc = s.npc := by rw [State.storePair_frame]

@[simp] theorem State.storePair_globals (s : State) (k : BitVec 8) (a x y : Word) :
    (s.storePair k a x y).globals = s.globals := by rw [State.storePair_frame]

@[simp] theorem State.storePair_altGlobals (s : State) (k : BitVec 8) (a x y : Word) :
    (s.storePair k a x y).altGlobals = s.altGlobals := by rw [State.storePair_frame]

@[simp] theorem State.storePair_locals (s : State) (k : BitVec 8) (a x y : Word) :
    (s.storePair k a x y).locals = s.locals := by rw [State.storePair_frame]

@[simp] theorem State.storePair_ins (s : State) (k : BitVec 8) (a x y : Word) :
    (s.storePair k a x y).ins = s.ins := by rw [State.storePair_frame]

@[simp] theorem State.storePair_ccr (s : State) (k : BitVec 8) (a x y : Word) :
    (s.storePair k a x y).ccr = s.ccr := by rw [State.storePair_frame]

@[simp] theorem State.storePair_y (s : State) (k : BitVec 8) (a x y : Word) :
    (s.storePair k a x y).y = s.y := by rw [State.storePair_frame]

@[simp] theorem State.storePair_asi (s : State) (k : BitVec 8) (a x y : Word) :
    (s.storePair k a x y).asi = s.asi := by rw [State.storePair_frame]

@[simp] theorem State.storePair_tick (s : State) (k : BitVec 8) (a x y : Word) :
    (s.storePair k a x y).tick = s.tick := by rw [State.storePair_frame]

@[simp] theorem State.storePair_fprs (s : State) (k : BitVec 8) (a x y : Word) :
    (s.storePair k a x y).fprs = s.fprs := by rw [State.storePair_frame]

@[simp] theorem State.storePair_f (s : State) (k : BitVec 8) (a x y : Word) :
    (s.storePair k a x y).f = s.f := by rw [State.storePair_frame]

@[simp] theorem State.storePair_fsr (s : State) (k : BitVec 8) (a x y : Word) :
    (s.storePair k a x y).fsr = s.fsr := by rw [State.storePair_frame]

@[simp] theorem State.storePair_pstate (s : State) (k : BitVec 8) (a x y : Word) :
    (s.storePair k a x y).pstate = s.pstate := by rw [State.storePair_frame]

@[simp] theorem State.storePair_tl (s : State) (k : BitVec 8) (a x y : Word) :
    (s.storePair k a x y).tl = s.tl := by rw [State.storePair_frame]

@[simp] theorem State.storePair_trapStack (s : State) (k : BitVec 8) (a x y : Word) :
    (s.storePair k a x y).trapStack = s.trapStack := by rw [State.storePair_frame]

@[simp] theorem State.storePair_tba (s : State) (k : BitVec 8) (a x y : Word) :
    (s.storePair k a x y).tba = s.tba := by rw [State.storePair_frame]

@[simp] theorem State.storePair_pil (s : State) (k : BitVec 8) (a x y : Word) :
    (s.storePair k a x y).pil = s.pil := by rw [State.storePair_frame]

@[simp] theorem State.storePair_cwp (s : State) (k : BitVec 8) (a x y : Word) :
    (s.storePair k a x y).cwp = s.cwp := by rw [State.storePair_frame]

@[simp] theorem State.storePair_cansave (s : State) (k : BitVec 8) (a x y : Word) :
    (s.storePair k a x y).cansave = s.cansave := by rw [State.storePair_frame]

@[simp] theorem State.storePair_canrestore (s : State) (k : BitVec 8) (a x y : Word) :
    (s.storePair k a x y).canrestore = s.canrestore := by rw [State.storePair_frame]

@[simp] theorem State.storePair_cleanwin (s : State) (k : BitVec 8) (a x y : Word) :
    (s.storePair k a x y).cleanwin = s.cleanwin := by rw [State.storePair_frame]

@[simp] theorem State.storePair_otherwin (s : State) (k : BitVec 8) (a x y : Word) :
    (s.storePair k a x y).otherwin = s.otherwin := by rw [State.storePair_frame]

@[simp] theorem State.storePair_wstate (s : State) (k : BitVec 8) (a x y : Word) :
    (s.storePair k a x y).wstate = s.wstate := by rw [State.storePair_frame]

@[simp] theorem State.storePair_sirEnable (s : State) (k : BitVec 8) (a x y : Word) :
    (s.storePair k a x y).sirEnable = s.sirEnable := by rw [State.storePair_frame]

@[simp] theorem State.storePair_errorState (s : State) (k : BitVec 8) (a x y : Word) :
    (s.storePair k a x y).errorState = s.errorState := by rw [State.storePair_frame]

@[simp] theorem State.storePair_draws (s : State) (k : BitVec 8) (a x y : Word) :
    (s.storePair k a x y).draws = s.draws := by rw [State.storePair_frame]

/-! ### clearCexcFtt -/

@[simp] theorem State.clearCexcFtt_params (s : State) :
    s.clearCexcFtt.params = s.params := rfl

@[simp] theorem State.clearCexcFtt_launch (s : State) :
    s.clearCexcFtt.launch = s.launch := rfl

@[simp] theorem State.clearCexcFtt_pc (s : State) :
    s.clearCexcFtt.pc = s.pc := rfl

@[simp] theorem State.clearCexcFtt_npc (s : State) :
    s.clearCexcFtt.npc = s.npc := rfl

@[simp] theorem State.clearCexcFtt_globals (s : State) :
    s.clearCexcFtt.globals = s.globals := rfl

@[simp] theorem State.clearCexcFtt_altGlobals (s : State) :
    s.clearCexcFtt.altGlobals = s.altGlobals := rfl

@[simp] theorem State.clearCexcFtt_locals (s : State) :
    s.clearCexcFtt.locals = s.locals := rfl

@[simp] theorem State.clearCexcFtt_ins (s : State) :
    s.clearCexcFtt.ins = s.ins := rfl

@[simp] theorem State.clearCexcFtt_ccr (s : State) :
    s.clearCexcFtt.ccr = s.ccr := rfl

@[simp] theorem State.clearCexcFtt_y (s : State) :
    s.clearCexcFtt.y = s.y := rfl

@[simp] theorem State.clearCexcFtt_asi (s : State) :
    s.clearCexcFtt.asi = s.asi := rfl

@[simp] theorem State.clearCexcFtt_tick (s : State) :
    s.clearCexcFtt.tick = s.tick := rfl

@[simp] theorem State.clearCexcFtt_fprs (s : State) :
    s.clearCexcFtt.fprs = s.fprs := rfl

@[simp] theorem State.clearCexcFtt_f (s : State) :
    s.clearCexcFtt.f = s.f := rfl

@[simp] theorem State.clearCexcFtt_fsr (s : State) :
    s.clearCexcFtt.fsr = fsrPutFtt (fsrPutCexc s.fsr 0) 0 := rfl

@[simp] theorem State.clearCexcFtt_pstate (s : State) :
    s.clearCexcFtt.pstate = s.pstate := rfl

@[simp] theorem State.clearCexcFtt_tl (s : State) :
    s.clearCexcFtt.tl = s.tl := rfl

@[simp] theorem State.clearCexcFtt_trapStack (s : State) :
    s.clearCexcFtt.trapStack = s.trapStack := rfl

@[simp] theorem State.clearCexcFtt_tba (s : State) :
    s.clearCexcFtt.tba = s.tba := rfl

@[simp] theorem State.clearCexcFtt_pil (s : State) :
    s.clearCexcFtt.pil = s.pil := rfl

@[simp] theorem State.clearCexcFtt_cwp (s : State) :
    s.clearCexcFtt.cwp = s.cwp := rfl

@[simp] theorem State.clearCexcFtt_cansave (s : State) :
    s.clearCexcFtt.cansave = s.cansave := rfl

@[simp] theorem State.clearCexcFtt_canrestore (s : State) :
    s.clearCexcFtt.canrestore = s.canrestore := rfl

@[simp] theorem State.clearCexcFtt_cleanwin (s : State) :
    s.clearCexcFtt.cleanwin = s.cleanwin := rfl

@[simp] theorem State.clearCexcFtt_otherwin (s : State) :
    s.clearCexcFtt.otherwin = s.otherwin := rfl

@[simp] theorem State.clearCexcFtt_wstate (s : State) :
    s.clearCexcFtt.wstate = s.wstate := rfl

@[simp] theorem State.clearCexcFtt_sirEnable (s : State) :
    s.clearCexcFtt.sirEnable = s.sirEnable := rfl

@[simp] theorem State.clearCexcFtt_errorState (s : State) :
    s.clearCexcFtt.errorState = s.errorState := rfl

@[simp] theorem State.clearCexcFtt_draws (s : State) :
    s.clearCexcFtt.draws = s.draws := rfl

@[simp] theorem State.clearCexcFtt_mem (s : State) :
    s.clearCexcFtt.mem = s.mem := rfl

/-! ### nextWithMem -/

@[simp] theorem State.nextWithMem_params (s : State) (m : Memory) :
    (s.nextWithMem m).params = s.params := rfl

@[simp] theorem State.nextWithMem_launch (s : State) (m : Memory) :
    (s.nextWithMem m).launch = s.launch := rfl

@[simp] theorem State.nextWithMem_pc (s : State) (m : Memory) :
    (s.nextWithMem m).pc = s.npc := rfl

@[simp] theorem State.nextWithMem_npc (s : State) (m : Memory) :
    (s.nextWithMem m).npc = s.npc + 4 := rfl

@[simp] theorem State.nextWithMem_globals (s : State) (m : Memory) :
    (s.nextWithMem m).globals = s.globals := rfl

@[simp] theorem State.nextWithMem_altGlobals (s : State) (m : Memory) :
    (s.nextWithMem m).altGlobals = s.altGlobals := rfl

@[simp] theorem State.nextWithMem_locals (s : State) (m : Memory) :
    (s.nextWithMem m).locals = s.locals := rfl

@[simp] theorem State.nextWithMem_ins (s : State) (m : Memory) :
    (s.nextWithMem m).ins = s.ins := rfl

@[simp] theorem State.nextWithMem_ccr (s : State) (m : Memory) :
    (s.nextWithMem m).ccr = s.ccr := rfl

@[simp] theorem State.nextWithMem_y (s : State) (m : Memory) :
    (s.nextWithMem m).y = s.y := rfl

@[simp] theorem State.nextWithMem_asi (s : State) (m : Memory) :
    (s.nextWithMem m).asi = s.asi := rfl

@[simp] theorem State.nextWithMem_tick (s : State) (m : Memory) :
    (s.nextWithMem m).tick = s.tick := rfl

@[simp] theorem State.nextWithMem_fprs (s : State) (m : Memory) :
    (s.nextWithMem m).fprs = s.fprs := rfl

@[simp] theorem State.nextWithMem_f (s : State) (m : Memory) :
    (s.nextWithMem m).f = s.f := rfl

@[simp] theorem State.nextWithMem_fsr (s : State) (m : Memory) :
    (s.nextWithMem m).fsr = s.fsr := rfl

@[simp] theorem State.nextWithMem_pstate (s : State) (m : Memory) :
    (s.nextWithMem m).pstate = s.pstate := rfl

@[simp] theorem State.nextWithMem_tl (s : State) (m : Memory) :
    (s.nextWithMem m).tl = s.tl := rfl

@[simp] theorem State.nextWithMem_trapStack (s : State) (m : Memory) :
    (s.nextWithMem m).trapStack = s.trapStack := rfl

@[simp] theorem State.nextWithMem_tba (s : State) (m : Memory) :
    (s.nextWithMem m).tba = s.tba := rfl

@[simp] theorem State.nextWithMem_pil (s : State) (m : Memory) :
    (s.nextWithMem m).pil = s.pil := rfl

@[simp] theorem State.nextWithMem_cwp (s : State) (m : Memory) :
    (s.nextWithMem m).cwp = s.cwp := rfl

@[simp] theorem State.nextWithMem_cansave (s : State) (m : Memory) :
    (s.nextWithMem m).cansave = s.cansave := rfl

@[simp] theorem State.nextWithMem_canrestore (s : State) (m : Memory) :
    (s.nextWithMem m).canrestore = s.canrestore := rfl

@[simp] theorem State.nextWithMem_cleanwin (s : State) (m : Memory) :
    (s.nextWithMem m).cleanwin = s.cleanwin := rfl

@[simp] theorem State.nextWithMem_otherwin (s : State) (m : Memory) :
    (s.nextWithMem m).otherwin = s.otherwin := rfl

@[simp] theorem State.nextWithMem_wstate (s : State) (m : Memory) :
    (s.nextWithMem m).wstate = s.wstate := rfl

@[simp] theorem State.nextWithMem_sirEnable (s : State) (m : Memory) :
    (s.nextWithMem m).sirEnable = s.sirEnable := rfl

@[simp] theorem State.nextWithMem_errorState (s : State) (m : Memory) :
    (s.nextWithMem m).errorState = s.errorState := rfl

@[simp] theorem State.nextWithMem_draws (s : State) (m : Memory) :
    (s.nextWithMem m).draws = s.draws := rfl

@[simp] theorem State.nextWithMem_mem (s : State) (m : Memory) :
    (s.nextWithMem m).mem = m := rfl

/-! ### normalTrap -/

@[simp] theorem normalTrap_params (s : State) (e : Exc) :
    (normalTrap e s).params = s.params := rfl

@[simp] theorem normalTrap_launch (s : State) (e : Exc) :
    (normalTrap e s).launch = s.launch := rfl

@[simp] theorem normalTrap_pc (s : State) (e : Exc) :
    (normalTrap e s).pc = trapVector s.tba s.tl e.tt := rfl

@[simp] theorem normalTrap_npc (s : State) (e : Exc) :
    (normalTrap e s).npc = trapVector s.tba s.tl e.tt + 4 := rfl

@[simp] theorem normalTrap_globals (s : State) (e : Exc) :
    (normalTrap e s).globals = s.globals := rfl

@[simp] theorem normalTrap_altGlobals (s : State) (e : Exc) :
    (normalTrap e s).altGlobals = s.altGlobals := rfl

@[simp] theorem normalTrap_locals (s : State) (e : Exc) :
    (normalTrap e s).locals = s.locals := rfl

@[simp] theorem normalTrap_ins (s : State) (e : Exc) :
    (normalTrap e s).ins = s.ins := rfl

@[simp] theorem normalTrap_ccr (s : State) (e : Exc) :
    (normalTrap e s).ccr = s.ccr := rfl

@[simp] theorem normalTrap_y (s : State) (e : Exc) :
    (normalTrap e s).y = s.y := rfl

@[simp] theorem normalTrap_asi (s : State) (e : Exc) :
    (normalTrap e s).asi = s.asi := rfl

@[simp] theorem normalTrap_tick (s : State) (e : Exc) :
    (normalTrap e s).tick = s.tick := rfl

@[simp] theorem normalTrap_fprs (s : State) (e : Exc) :
    (normalTrap e s).fprs = s.fprs := rfl

@[simp] theorem normalTrap_f (s : State) (e : Exc) :
    (normalTrap e s).f = s.f := rfl

@[simp] theorem normalTrap_fsr (s : State) (e : Exc) :
    (normalTrap e s).fsr = s.fsr := rfl

@[simp] theorem normalTrap_pstate (s : State) (e : Exc) :
    (normalTrap e s).pstate = trapPstate s.pstate := rfl

@[simp] theorem normalTrap_tl (s : State) (e : Exc) :
    (normalTrap e s).tl = s.tl + 1 := rfl

@[simp] theorem normalTrap_trapStack (s : State) (e : Exc) :
    (normalTrap e s).trapStack = s.trapStack.set (tlIndex (s.tl + 1)) (trapFrame e s) := rfl

@[simp] theorem normalTrap_tba (s : State) (e : Exc) :
    (normalTrap e s).tba = s.tba := rfl

@[simp] theorem normalTrap_pil (s : State) (e : Exc) :
    (normalTrap e s).pil = s.pil := rfl

@[simp] theorem normalTrap_cwp (s : State) (e : Exc) :
    (normalTrap e s).cwp = trapCwp e s := rfl

@[simp] theorem normalTrap_cansave (s : State) (e : Exc) :
    (normalTrap e s).cansave = s.cansave := rfl

@[simp] theorem normalTrap_canrestore (s : State) (e : Exc) :
    (normalTrap e s).canrestore = s.canrestore := rfl

@[simp] theorem normalTrap_cleanwin (s : State) (e : Exc) :
    (normalTrap e s).cleanwin = s.cleanwin := rfl

@[simp] theorem normalTrap_otherwin (s : State) (e : Exc) :
    (normalTrap e s).otherwin = s.otherwin := rfl

@[simp] theorem normalTrap_wstate (s : State) (e : Exc) :
    (normalTrap e s).wstate = s.wstate := rfl

@[simp] theorem normalTrap_sirEnable (s : State) (e : Exc) :
    (normalTrap e s).sirEnable = s.sirEnable := rfl

@[simp] theorem normalTrap_errorState (s : State) (e : Exc) :
    (normalTrap e s).errorState = s.errorState := rfl

@[simp] theorem normalTrap_draws (s : State) (e : Exc) :
    (normalTrap e s).draws = s.draws := rfl

@[simp] theorem normalTrap_mem (s : State) (e : Exc) :
    (normalTrap e s).mem = s.mem := rfl

/-! ### redTrap -/

@[simp] theorem redTrap_params (s : State) (e : Exc) :
    (redTrap e s).params = s.params := rfl

@[simp] theorem redTrap_launch (s : State) (e : Exc) :
    (redTrap e s).launch = s.launch := rfl

@[simp] theorem redTrap_pc (s : State) (e : Exc) :
    (redTrap e s).pc = redVectorAddr s.params e.redVector := rfl

@[simp] theorem redTrap_npc (s : State) (e : Exc) :
    (redTrap e s).npc = redVectorAddr s.params e.redVector + 4 := rfl

@[simp] theorem redTrap_globals (s : State) (e : Exc) :
    (redTrap e s).globals = s.globals := rfl

@[simp] theorem redTrap_altGlobals (s : State) (e : Exc) :
    (redTrap e s).altGlobals = s.altGlobals := rfl

@[simp] theorem redTrap_locals (s : State) (e : Exc) :
    (redTrap e s).locals = s.locals := rfl

@[simp] theorem redTrap_ins (s : State) (e : Exc) :
    (redTrap e s).ins = s.ins := rfl

@[simp] theorem redTrap_ccr (s : State) (e : Exc) :
    (redTrap e s).ccr = s.ccr := rfl

@[simp] theorem redTrap_y (s : State) (e : Exc) :
    (redTrap e s).y = s.y := rfl

@[simp] theorem redTrap_asi (s : State) (e : Exc) :
    (redTrap e s).asi = s.asi := rfl

@[simp] theorem redTrap_tick (s : State) (e : Exc) :
    (redTrap e s).tick = s.tick := rfl

@[simp] theorem redTrap_fprs (s : State) (e : Exc) :
    (redTrap e s).fprs = s.fprs := rfl

@[simp] theorem redTrap_f (s : State) (e : Exc) :
    (redTrap e s).f = s.f := rfl

@[simp] theorem redTrap_fsr (s : State) (e : Exc) :
    (redTrap e s).fsr = s.fsr := rfl

@[simp] theorem redTrap_pstate (s : State) (e : Exc) :
    (redTrap e s).pstate = redPstate s.pstate (freeTle s.draws) (freePid s.draws) &&& pstateMask s.params := rfl

@[simp] theorem redTrap_tl (s : State) (e : Exc) :
    (redTrap e s).tl = BitVec.ofNat 3 (min (s.tl.toNat + 1) s.params.maxtl) := rfl

@[simp] theorem redTrap_trapStack (s : State) (e : Exc) :
    (redTrap e s).trapStack = s.trapStack.set (tlIndex (BitVec.ofNat 3 (min (s.tl.toNat + 1) s.params.maxtl))) (trapFrame e s) := rfl

@[simp] theorem redTrap_tba (s : State) (e : Exc) :
    (redTrap e s).tba = s.tba := rfl

@[simp] theorem redTrap_pil (s : State) (e : Exc) :
    (redTrap e s).pil = s.pil := rfl

@[simp] theorem redTrap_cwp (s : State) (e : Exc) :
    (redTrap e s).cwp = trapCwp e s := rfl

@[simp] theorem redTrap_cansave (s : State) (e : Exc) :
    (redTrap e s).cansave = s.cansave := rfl

@[simp] theorem redTrap_canrestore (s : State) (e : Exc) :
    (redTrap e s).canrestore = s.canrestore := rfl

@[simp] theorem redTrap_cleanwin (s : State) (e : Exc) :
    (redTrap e s).cleanwin = s.cleanwin := rfl

@[simp] theorem redTrap_otherwin (s : State) (e : Exc) :
    (redTrap e s).otherwin = s.otherwin := rfl

@[simp] theorem redTrap_wstate (s : State) (e : Exc) :
    (redTrap e s).wstate = s.wstate := rfl

@[simp] theorem redTrap_sirEnable (s : State) (e : Exc) :
    (redTrap e s).sirEnable = s.sirEnable := rfl

@[simp] theorem redTrap_errorState (s : State) (e : Exc) :
    (redTrap e s).errorState = s.errorState := rfl

@[simp] theorem redTrap_draws (s : State) (e : Exc) :
    (redTrap e s).draws = s.draws + 1 := rfl

@[simp] theorem redTrap_mem (s : State) (e : Exc) :
    (redTrap e s).mem = s.mem := rfl

/-! ### writeReg -/

@[simp] theorem State.writeReg_params (s : State) (r : Reg) (v : Word) :
    (s.writeReg r v).params = s.params := by rw [State.writeReg_frame]

@[simp] theorem State.writeReg_launch (s : State) (r : Reg) (v : Word) :
    (s.writeReg r v).launch = s.launch := by rw [State.writeReg_frame]

@[simp] theorem State.writeReg_pc (s : State) (r : Reg) (v : Word) :
    (s.writeReg r v).pc = s.pc := by rw [State.writeReg_frame]

@[simp] theorem State.writeReg_npc (s : State) (r : Reg) (v : Word) :
    (s.writeReg r v).npc = s.npc := by rw [State.writeReg_frame]

@[simp] theorem State.writeReg_ccr (s : State) (r : Reg) (v : Word) :
    (s.writeReg r v).ccr = s.ccr := by rw [State.writeReg_frame]

@[simp] theorem State.writeReg_y (s : State) (r : Reg) (v : Word) :
    (s.writeReg r v).y = s.y := by rw [State.writeReg_frame]

@[simp] theorem State.writeReg_asi (s : State) (r : Reg) (v : Word) :
    (s.writeReg r v).asi = s.asi := by rw [State.writeReg_frame]

@[simp] theorem State.writeReg_tick (s : State) (r : Reg) (v : Word) :
    (s.writeReg r v).tick = s.tick := by rw [State.writeReg_frame]

@[simp] theorem State.writeReg_fprs (s : State) (r : Reg) (v : Word) :
    (s.writeReg r v).fprs = s.fprs := by rw [State.writeReg_frame]

@[simp] theorem State.writeReg_f (s : State) (r : Reg) (v : Word) :
    (s.writeReg r v).f = s.f := by rw [State.writeReg_frame]

@[simp] theorem State.writeReg_fsr (s : State) (r : Reg) (v : Word) :
    (s.writeReg r v).fsr = s.fsr := by rw [State.writeReg_frame]

@[simp] theorem State.writeReg_pstate (s : State) (r : Reg) (v : Word) :
    (s.writeReg r v).pstate = s.pstate := by rw [State.writeReg_frame]

@[simp] theorem State.writeReg_tl (s : State) (r : Reg) (v : Word) :
    (s.writeReg r v).tl = s.tl := by rw [State.writeReg_frame]

@[simp] theorem State.writeReg_trapStack (s : State) (r : Reg) (v : Word) :
    (s.writeReg r v).trapStack = s.trapStack := by rw [State.writeReg_frame]

@[simp] theorem State.writeReg_tba (s : State) (r : Reg) (v : Word) :
    (s.writeReg r v).tba = s.tba := by rw [State.writeReg_frame]

@[simp] theorem State.writeReg_pil (s : State) (r : Reg) (v : Word) :
    (s.writeReg r v).pil = s.pil := by rw [State.writeReg_frame]

@[simp] theorem State.writeReg_cwp (s : State) (r : Reg) (v : Word) :
    (s.writeReg r v).cwp = s.cwp := by rw [State.writeReg_frame]

@[simp] theorem State.writeReg_cansave (s : State) (r : Reg) (v : Word) :
    (s.writeReg r v).cansave = s.cansave := by rw [State.writeReg_frame]

@[simp] theorem State.writeReg_canrestore (s : State) (r : Reg) (v : Word) :
    (s.writeReg r v).canrestore = s.canrestore := by rw [State.writeReg_frame]

@[simp] theorem State.writeReg_cleanwin (s : State) (r : Reg) (v : Word) :
    (s.writeReg r v).cleanwin = s.cleanwin := by rw [State.writeReg_frame]

@[simp] theorem State.writeReg_otherwin (s : State) (r : Reg) (v : Word) :
    (s.writeReg r v).otherwin = s.otherwin := by rw [State.writeReg_frame]

@[simp] theorem State.writeReg_wstate (s : State) (r : Reg) (v : Word) :
    (s.writeReg r v).wstate = s.wstate := by rw [State.writeReg_frame]

@[simp] theorem State.writeReg_sirEnable (s : State) (r : Reg) (v : Word) :
    (s.writeReg r v).sirEnable = s.sirEnable := by rw [State.writeReg_frame]

@[simp] theorem State.writeReg_errorState (s : State) (r : Reg) (v : Word) :
    (s.writeReg r v).errorState = s.errorState := by rw [State.writeReg_frame]

@[simp] theorem State.writeReg_draws (s : State) (r : Reg) (v : Word) :
    (s.writeReg r v).draws = s.draws := by rw [State.writeReg_frame]

@[simp] theorem State.writeReg_mem (s : State) (r : Reg) (v : Word) :
    (s.writeReg r v).mem = s.mem := by rw [State.writeReg_frame]

/-! ### recordFp -/

@[simp] theorem recordFp_params (s : State) (e : Exc) :
    (recordFp e s).params = s.params := by rw [recordFp_frame]

@[simp] theorem recordFp_launch (s : State) (e : Exc) :
    (recordFp e s).launch = s.launch := by rw [recordFp_frame]

@[simp] theorem recordFp_pc (s : State) (e : Exc) :
    (recordFp e s).pc = s.pc := by rw [recordFp_frame]

@[simp] theorem recordFp_npc (s : State) (e : Exc) :
    (recordFp e s).npc = s.npc := by rw [recordFp_frame]

@[simp] theorem recordFp_globals (s : State) (e : Exc) :
    (recordFp e s).globals = s.globals := by rw [recordFp_frame]

@[simp] theorem recordFp_altGlobals (s : State) (e : Exc) :
    (recordFp e s).altGlobals = s.altGlobals := by rw [recordFp_frame]

@[simp] theorem recordFp_locals (s : State) (e : Exc) :
    (recordFp e s).locals = s.locals := by rw [recordFp_frame]

@[simp] theorem recordFp_ins (s : State) (e : Exc) :
    (recordFp e s).ins = s.ins := by rw [recordFp_frame]

@[simp] theorem recordFp_ccr (s : State) (e : Exc) :
    (recordFp e s).ccr = s.ccr := by rw [recordFp_frame]

@[simp] theorem recordFp_y (s : State) (e : Exc) :
    (recordFp e s).y = s.y := by rw [recordFp_frame]

@[simp] theorem recordFp_asi (s : State) (e : Exc) :
    (recordFp e s).asi = s.asi := by rw [recordFp_frame]

@[simp] theorem recordFp_tick (s : State) (e : Exc) :
    (recordFp e s).tick = s.tick := by rw [recordFp_frame]

@[simp] theorem recordFp_fprs (s : State) (e : Exc) :
    (recordFp e s).fprs = s.fprs := by rw [recordFp_frame]

@[simp] theorem recordFp_f (s : State) (e : Exc) :
    (recordFp e s).f = s.f := by rw [recordFp_frame]

@[simp] theorem recordFp_pstate (s : State) (e : Exc) :
    (recordFp e s).pstate = s.pstate := by rw [recordFp_frame]

@[simp] theorem recordFp_tl (s : State) (e : Exc) :
    (recordFp e s).tl = s.tl := by rw [recordFp_frame]

@[simp] theorem recordFp_trapStack (s : State) (e : Exc) :
    (recordFp e s).trapStack = s.trapStack := by rw [recordFp_frame]

@[simp] theorem recordFp_tba (s : State) (e : Exc) :
    (recordFp e s).tba = s.tba := by rw [recordFp_frame]

@[simp] theorem recordFp_pil (s : State) (e : Exc) :
    (recordFp e s).pil = s.pil := by rw [recordFp_frame]

@[simp] theorem recordFp_cwp (s : State) (e : Exc) :
    (recordFp e s).cwp = s.cwp := by rw [recordFp_frame]

@[simp] theorem recordFp_cansave (s : State) (e : Exc) :
    (recordFp e s).cansave = s.cansave := by rw [recordFp_frame]

@[simp] theorem recordFp_canrestore (s : State) (e : Exc) :
    (recordFp e s).canrestore = s.canrestore := by rw [recordFp_frame]

@[simp] theorem recordFp_cleanwin (s : State) (e : Exc) :
    (recordFp e s).cleanwin = s.cleanwin := by rw [recordFp_frame]

@[simp] theorem recordFp_otherwin (s : State) (e : Exc) :
    (recordFp e s).otherwin = s.otherwin := by rw [recordFp_frame]

@[simp] theorem recordFp_wstate (s : State) (e : Exc) :
    (recordFp e s).wstate = s.wstate := by rw [recordFp_frame]

@[simp] theorem recordFp_sirEnable (s : State) (e : Exc) :
    (recordFp e s).sirEnable = s.sirEnable := by rw [recordFp_frame]

@[simp] theorem recordFp_errorState (s : State) (e : Exc) :
    (recordFp e s).errorState = s.errorState := by rw [recordFp_frame]

@[simp] theorem recordFp_draws (s : State) (e : Exc) :
    (recordFp e s).draws = s.draws := by rw [recordFp_frame]

@[simp] theorem recordFp_mem (s : State) (e : Exc) :
    (recordFp e s).mem = s.mem := by rw [recordFp_frame]

/-! ### copyF -/

@[simp] theorem State.copyF_params (s : State) (size : FpSize) (rd rs2 : Reg) :
    (s.copyF size rd rs2).params = s.params := by rw [State.copyF_frame]

@[simp] theorem State.copyF_launch (s : State) (size : FpSize) (rd rs2 : Reg) :
    (s.copyF size rd rs2).launch = s.launch := by rw [State.copyF_frame]

@[simp] theorem State.copyF_pc (s : State) (size : FpSize) (rd rs2 : Reg) :
    (s.copyF size rd rs2).pc = s.pc := by rw [State.copyF_frame]

@[simp] theorem State.copyF_npc (s : State) (size : FpSize) (rd rs2 : Reg) :
    (s.copyF size rd rs2).npc = s.npc := by rw [State.copyF_frame]

@[simp] theorem State.copyF_globals (s : State) (size : FpSize) (rd rs2 : Reg) :
    (s.copyF size rd rs2).globals = s.globals := by rw [State.copyF_frame]

@[simp] theorem State.copyF_altGlobals (s : State) (size : FpSize) (rd rs2 : Reg) :
    (s.copyF size rd rs2).altGlobals = s.altGlobals := by rw [State.copyF_frame]

@[simp] theorem State.copyF_locals (s : State) (size : FpSize) (rd rs2 : Reg) :
    (s.copyF size rd rs2).locals = s.locals := by rw [State.copyF_frame]

@[simp] theorem State.copyF_ins (s : State) (size : FpSize) (rd rs2 : Reg) :
    (s.copyF size rd rs2).ins = s.ins := by rw [State.copyF_frame]

@[simp] theorem State.copyF_ccr (s : State) (size : FpSize) (rd rs2 : Reg) :
    (s.copyF size rd rs2).ccr = s.ccr := by rw [State.copyF_frame]

@[simp] theorem State.copyF_y (s : State) (size : FpSize) (rd rs2 : Reg) :
    (s.copyF size rd rs2).y = s.y := by rw [State.copyF_frame]

@[simp] theorem State.copyF_asi (s : State) (size : FpSize) (rd rs2 : Reg) :
    (s.copyF size rd rs2).asi = s.asi := by rw [State.copyF_frame]

@[simp] theorem State.copyF_tick (s : State) (size : FpSize) (rd rs2 : Reg) :
    (s.copyF size rd rs2).tick = s.tick := by rw [State.copyF_frame]

@[simp] theorem State.copyF_fsr (s : State) (size : FpSize) (rd rs2 : Reg) :
    (s.copyF size rd rs2).fsr = s.fsr := by rw [State.copyF_frame]

@[simp] theorem State.copyF_pstate (s : State) (size : FpSize) (rd rs2 : Reg) :
    (s.copyF size rd rs2).pstate = s.pstate := by rw [State.copyF_frame]

@[simp] theorem State.copyF_tl (s : State) (size : FpSize) (rd rs2 : Reg) :
    (s.copyF size rd rs2).tl = s.tl := by rw [State.copyF_frame]

@[simp] theorem State.copyF_trapStack (s : State) (size : FpSize) (rd rs2 : Reg) :
    (s.copyF size rd rs2).trapStack = s.trapStack := by rw [State.copyF_frame]

@[simp] theorem State.copyF_tba (s : State) (size : FpSize) (rd rs2 : Reg) :
    (s.copyF size rd rs2).tba = s.tba := by rw [State.copyF_frame]

@[simp] theorem State.copyF_pil (s : State) (size : FpSize) (rd rs2 : Reg) :
    (s.copyF size rd rs2).pil = s.pil := by rw [State.copyF_frame]

@[simp] theorem State.copyF_cwp (s : State) (size : FpSize) (rd rs2 : Reg) :
    (s.copyF size rd rs2).cwp = s.cwp := by rw [State.copyF_frame]

@[simp] theorem State.copyF_cansave (s : State) (size : FpSize) (rd rs2 : Reg) :
    (s.copyF size rd rs2).cansave = s.cansave := by rw [State.copyF_frame]

@[simp] theorem State.copyF_canrestore (s : State) (size : FpSize) (rd rs2 : Reg) :
    (s.copyF size rd rs2).canrestore = s.canrestore := by rw [State.copyF_frame]

@[simp] theorem State.copyF_cleanwin (s : State) (size : FpSize) (rd rs2 : Reg) :
    (s.copyF size rd rs2).cleanwin = s.cleanwin := by rw [State.copyF_frame]

@[simp] theorem State.copyF_otherwin (s : State) (size : FpSize) (rd rs2 : Reg) :
    (s.copyF size rd rs2).otherwin = s.otherwin := by rw [State.copyF_frame]

@[simp] theorem State.copyF_wstate (s : State) (size : FpSize) (rd rs2 : Reg) :
    (s.copyF size rd rs2).wstate = s.wstate := by rw [State.copyF_frame]

@[simp] theorem State.copyF_sirEnable (s : State) (size : FpSize) (rd rs2 : Reg) :
    (s.copyF size rd rs2).sirEnable = s.sirEnable := by rw [State.copyF_frame]

@[simp] theorem State.copyF_errorState (s : State) (size : FpSize) (rd rs2 : Reg) :
    (s.copyF size rd rs2).errorState = s.errorState := by rw [State.copyF_frame]

@[simp] theorem State.copyF_draws (s : State) (size : FpSize) (rd rs2 : Reg) :
    (s.copyF size rd rs2).draws = s.draws := by rw [State.copyF_frame]

@[simp] theorem State.copyF_mem (s : State) (size : FpSize) (rd rs2 : Reg) :
    (s.copyF size rd rs2).mem = s.mem := by rw [State.copyF_frame]

/-! ### loadPair -/

@[simp] theorem State.loadPair_params (s : State) (k : BitVec 8) (a : Word) (rd : Reg) :
    (s.loadPair k a rd).params = s.params := by rw [State.loadPair_frame]

@[simp] theorem State.loadPair_launch (s : State) (k : BitVec 8) (a : Word) (rd : Reg) :
    (s.loadPair k a rd).launch = s.launch := by rw [State.loadPair_frame]

@[simp] theorem State.loadPair_pc (s : State) (k : BitVec 8) (a : Word) (rd : Reg) :
    (s.loadPair k a rd).pc = s.pc := by rw [State.loadPair_frame]

@[simp] theorem State.loadPair_npc (s : State) (k : BitVec 8) (a : Word) (rd : Reg) :
    (s.loadPair k a rd).npc = s.npc := by rw [State.loadPair_frame]

@[simp] theorem State.loadPair_ccr (s : State) (k : BitVec 8) (a : Word) (rd : Reg) :
    (s.loadPair k a rd).ccr = s.ccr := by rw [State.loadPair_frame]

@[simp] theorem State.loadPair_y (s : State) (k : BitVec 8) (a : Word) (rd : Reg) :
    (s.loadPair k a rd).y = s.y := by rw [State.loadPair_frame]

@[simp] theorem State.loadPair_asi (s : State) (k : BitVec 8) (a : Word) (rd : Reg) :
    (s.loadPair k a rd).asi = s.asi := by rw [State.loadPair_frame]

@[simp] theorem State.loadPair_tick (s : State) (k : BitVec 8) (a : Word) (rd : Reg) :
    (s.loadPair k a rd).tick = s.tick := by rw [State.loadPair_frame]

@[simp] theorem State.loadPair_fprs (s : State) (k : BitVec 8) (a : Word) (rd : Reg) :
    (s.loadPair k a rd).fprs = s.fprs := by rw [State.loadPair_frame]

@[simp] theorem State.loadPair_f (s : State) (k : BitVec 8) (a : Word) (rd : Reg) :
    (s.loadPair k a rd).f = s.f := by rw [State.loadPair_frame]

@[simp] theorem State.loadPair_fsr (s : State) (k : BitVec 8) (a : Word) (rd : Reg) :
    (s.loadPair k a rd).fsr = s.fsr := by rw [State.loadPair_frame]

@[simp] theorem State.loadPair_pstate (s : State) (k : BitVec 8) (a : Word) (rd : Reg) :
    (s.loadPair k a rd).pstate = s.pstate := by rw [State.loadPair_frame]

@[simp] theorem State.loadPair_tl (s : State) (k : BitVec 8) (a : Word) (rd : Reg) :
    (s.loadPair k a rd).tl = s.tl := by rw [State.loadPair_frame]

@[simp] theorem State.loadPair_trapStack (s : State) (k : BitVec 8) (a : Word) (rd : Reg) :
    (s.loadPair k a rd).trapStack = s.trapStack := by rw [State.loadPair_frame]

@[simp] theorem State.loadPair_tba (s : State) (k : BitVec 8) (a : Word) (rd : Reg) :
    (s.loadPair k a rd).tba = s.tba := by rw [State.loadPair_frame]

@[simp] theorem State.loadPair_pil (s : State) (k : BitVec 8) (a : Word) (rd : Reg) :
    (s.loadPair k a rd).pil = s.pil := by rw [State.loadPair_frame]

@[simp] theorem State.loadPair_cwp (s : State) (k : BitVec 8) (a : Word) (rd : Reg) :
    (s.loadPair k a rd).cwp = s.cwp := by rw [State.loadPair_frame]

@[simp] theorem State.loadPair_cansave (s : State) (k : BitVec 8) (a : Word) (rd : Reg) :
    (s.loadPair k a rd).cansave = s.cansave := by rw [State.loadPair_frame]

@[simp] theorem State.loadPair_canrestore (s : State) (k : BitVec 8) (a : Word) (rd : Reg) :
    (s.loadPair k a rd).canrestore = s.canrestore := by rw [State.loadPair_frame]

@[simp] theorem State.loadPair_cleanwin (s : State) (k : BitVec 8) (a : Word) (rd : Reg) :
    (s.loadPair k a rd).cleanwin = s.cleanwin := by rw [State.loadPair_frame]

@[simp] theorem State.loadPair_otherwin (s : State) (k : BitVec 8) (a : Word) (rd : Reg) :
    (s.loadPair k a rd).otherwin = s.otherwin := by rw [State.loadPair_frame]

@[simp] theorem State.loadPair_wstate (s : State) (k : BitVec 8) (a : Word) (rd : Reg) :
    (s.loadPair k a rd).wstate = s.wstate := by rw [State.loadPair_frame]

@[simp] theorem State.loadPair_sirEnable (s : State) (k : BitVec 8) (a : Word) (rd : Reg) :
    (s.loadPair k a rd).sirEnable = s.sirEnable := by rw [State.loadPair_frame]

@[simp] theorem State.loadPair_errorState (s : State) (k : BitVec 8) (a : Word) (rd : Reg) :
    (s.loadPair k a rd).errorState = s.errorState := by rw [State.loadPair_frame]

@[simp] theorem State.loadPair_draws (s : State) (k : BitVec 8) (a : Word) (rd : Reg) :
    (s.loadPair k a rd).draws = s.draws := by rw [State.loadPair_frame]

@[simp] theorem State.loadPair_mem (s : State) (k : BitVec 8) (a : Word) (rd : Reg) :
    (s.loadPair k a rd).mem = s.mem := by rw [State.loadPair_frame]

/-! ### Accessors that an update leaves alone -/

@[simp] theorem State.advance_readReg (s : State) (r : Reg) : s.advance.readReg r = s.readReg r := rfl

@[simp] theorem State.advance_cell (s : State) (c : IntCell) : s.advance.cell c = s.cell c := by
  cases c <;> rfl

@[simp] theorem State.advance_cellOf (s : State) (r : Reg) : s.advance.cellOf r = s.cellOf r := rfl

@[simp] theorem State.advance_fWord (s : State) (n : BitVec 6) : s.advance.fWord n = s.fWord n := rfl

@[simp] theorem State.advance_trapRegs (s : State) (l : BitVec 3) :
    s.advance.trapRegs l = s.trapRegs l := rfl

@[simp] theorem State.storeValue_readReg (s : State) (k : BitVec 8) (a : Word) (n v : Nat) (r : Reg) :
    (s.storeValue k a n v).readReg r = s.readReg r := rfl

@[simp] theorem State.storeValue_cellOf (s : State) (k : BitVec 8) (a : Word) (n v : Nat) (r : Reg) :
    (s.storeValue k a n v).cellOf r = s.cellOf r := rfl

@[simp] theorem State.drawTick_cellOf (s : State) (r : Reg) : s.drawTick.cellOf r = s.cellOf r := rfl

end Sys2Proof.Machine
end

