-- ==== Sys2Proof/Laws/Registers.lean ====
section
/-! SUPPORT. The laws of the integer and floating-point register files. -/

namespace Sys2Proof.Machine

open Sys2Proof.Config

/-! ### Vectors -/

theorem vector_get_set {α : Type} {n : Nat} (xs : Vector α n) (i j : Fin n) (v : α) :
    (xs.set i v).get j = if i = j then v else xs.get j := by
  show (xs.set i v)[j.val] = _
  rw [Vector.getElem_set]
  by_cases h : i = j
  · simp [h]
  · have : i.val ≠ j.val := fun h' => h (Fin.ext h')
    simp [h, this]
    rfl

theorem setWindowReg_get (ws : Vector (Vector Word 8) 32) (w w' : Fin 32) (i i' : Fin 8) (v : Word) :
    ((setWindowReg ws w i v).get w').get i' = if w = w' ∧ i = i' then v else (ws.get w').get i' := by
  unfold setWindowReg
  rw [vector_get_set]
  by_cases h : w = w'
  · subst h
    simp only [if_true, true_and]
    exact vector_get_set ..
  · simp [h]

/-! ### Integer registers -/

/-- A register reads as its cell; r[0] reads as zero. -/
theorem State.readReg_eq (s : State) (r : Reg) :
    s.readReg r = match s.cellOf r with
      | none => 0
      | some c => s.cell c := by
  unfold State.readReg State.cellOf
  split
  · rfl
  · cases regGroup r
    · dsimp only; cases s.ag <;> rfl
    all_goals rfl

theorem State.readReg_zero (s : State) : s.readReg 0 = 0 := by simp [State.readReg]

theorem State.cellOf_zero (s : State) : s.cellOf 0 = none := by simp [State.cellOf]

theorem State.cellOf_eq_none (s : State) (r : Reg) : s.cellOf r = none ↔ r = 0 := by
  unfold State.cellOf
  constructor
  · intro h
    by_contra hr
    rw [if_neg hr] at h
    split at h <;> cases h
  · intro h; simp [h]

/-- A write to r[0] has no effect. -/
theorem State.writeReg_zero (s : State) (v : Word) : s.writeReg 0 v = s := by simp [State.writeReg]

/-- A write changes the cell the register names to the value, and no other cell. -/
theorem State.cell_writeReg (s : State) (r : Reg) (v : Word) (c : IntCell) :
    (s.writeReg r v).cell c = if s.cellOf r = some c then v else s.cell c := by
  unfold State.writeReg State.cellOf
  split
  · simp
  · cases regGroup r <;> dsimp only
    · cases s.ag <;> cases c <;> simp [State.cell, vector_get_set]
    all_goals cases c <;> simp [State.cell, setWindowReg_get]

/-- The cell a register names depends on PSTATE.AG, NWINDOWS and CWP only. -/
theorem State.cellOf_congr (s t : State) (r : Reg) (h1 : t.ag = s.ag) (h2 : t.params = s.params)
    (h3 : t.cwp = s.cwp) : t.cellOf r = s.cellOf r := by
  unfold State.cellOf
  rw [h1, h2, h3]

@[simp] theorem State.writeReg_ag (s : State) (r : Reg) (v : Word) : (s.writeReg r v).ag = s.ag := by
  simp [State.ag]

@[simp] theorem State.writeReg_cellOf (s : State) (r r' : Reg) (v : Word) :
    (s.writeReg r v).cellOf r' = s.cellOf r' :=
  State.cellOf_congr _ _ _ (by simp) (by simp) (by simp)

/-- A register other than r[0] reads back what was written to it. -/
theorem State.readReg_writeReg_same (s : State) (r : Reg) (v : Word) (h : r ≠ 0) :
    (s.writeReg r v).readReg r = v := by
  rw [State.readReg_eq, State.writeReg_cellOf]
  cases hc : s.cellOf r with
  | none => exact absurd ((State.cellOf_eq_none s r).1 hc) h
  | some c => dsimp only; rw [State.cell_writeReg, if_pos hc]

/-- The next window of a window in range is another window in range. -/
theorem windowPlus_one (p : Params) (w : BitVec 5) (hp : p.wf) :
    (windowPlus p w 1).toNat = (w.toNat + 1) % p.nwindows ∧
      (windowPlus p w 1).toNat < p.nwindows ∧ windowPlus p w 1 ≠ w := by
  obtain ⟨h3, h32, -⟩ := hp
  have hlt : (w.toNat + 1) % p.nwindows < p.nwindows := Nat.mod_lt _ (by omega)
  have h1 : (windowPlus p w 1).toNat = (w.toNat + 1) % p.nwindows := by
    unfold windowPlus
    rw [BitVec.toNat_ofNat]
    exact Nat.mod_eq_of_lt (by omega)
  refine ⟨h1, h1 ▸ hlt, fun h => ?_⟩
  rw [h] at h1
  have hw : w.toNat < p.nwindows := h1 ▸ hlt
  by_cases hlast : w.toNat + 1 = p.nwindows
  · rw [hlast, Nat.mod_self] at h1; omega
  · rw [Nat.mod_eq_of_lt (by omega)] at h1; omega

theorem reg_eq_of_parts (r r' : Reg) (h1 : r.extractLsb' 3 2 = r'.extractLsb' 3 2)
    (h2 : r.extractLsb' 0 3 = r'.extractLsb' 0 3) : r = r' := by
  revert r r'
  decide +kernel

theorem groupIndex_inj (r r' : Reg) (h : groupIndex r = groupIndex r') :
    r.extractLsb' 0 3 = r'.extractLsb' 0 3 := by
  have := congrArg Fin.val h
  exact BitVec.eq_of_toNat_eq this

theorem winIndex_inj (w w' : BitVec 5) (h : winIndex w = winIndex w') : w = w' :=
  BitVec.eq_of_toNat_eq (congrArg Fin.val h)

theorem regGroup_inj (r r' : Reg) (h : regGroup r = regGroup r') :
    r.extractLsb' 3 2 = r'.extractLsb' 3 2 := by
  revert r r'
  decide +kernel

/-- Two different registers name different cells. -/
theorem State.cellOf_ne (s : State) (r r' : Reg) (hp : s.params.wf) (hne : r ≠ r') (h0 : r ≠ 0) :
    s.cellOf r ≠ s.cellOf r' := by
  intro h
  have hw' := (windowPlus_one s.params s.cwp hp).2.2
  unfold State.cellOf at h
  rw [if_neg h0] at h
  by_cases h0' : r' = 0
  · rw [if_pos h0'] at h
    split at h <;> cases h
  rw [if_neg h0'] at h
  have same : regGroup r = regGroup r' → groupIndex r = groupIndex r' → False := fun hg hi =>
    hne (reg_eq_of_parts r r' (regGroup_inj r r' hg) (groupIndex_inj r r' hi))
  cases hg : regGroup r <;> cases hg' : regGroup r' <;> rw [hg, hg'] at h <;> dsimp only at h <;>
    (try (cases hag : s.ag <;> rw [hag] at h)) <;> simp at h <;>
    first
    | exact same (hg.trans hg'.symm) h
    | exact same (hg.trans hg'.symm) h.2
    | exact hw' (winIndex_inj _ _ h.1)
    | exact hw' (winIndex_inj _ _ h.1.symm)

/-- Writing registers twice changes the register arrays only. -/
theorem State.writeReg_writeReg_frame (s : State) (r r' : Reg) (v v' : Word) :
    (s.writeReg r v).writeReg r' v' = { s with
      globals := ((s.writeReg r v).writeReg r' v').globals
      altGlobals := ((s.writeReg r v).writeReg r' v').altGlobals
      locals := ((s.writeReg r v).writeReg r' v').locals
      ins := ((s.writeReg r v).writeReg r' v').ins } := by
  have h1 := State.writeReg_frame s r v
  have h2 := State.writeReg_frame (s.writeReg r v) r' v'
  have h3 : ∀ a b c d, { s.writeReg r v with globals := a, altGlobals := b, locals := c, ins := d } =
      { s with globals := a, altGlobals := b, locals := c, ins := d } := by
    intro a b c d; rw [h1]
  exact h2.trans (h3 _ _ _ _)

/-- What an instruction does that ends by writing one integer register. -/
theorem wroteInts_writeReg (s : State) (r : Reg) (v : Word) :
    WroteInts s (s.writeReg r v).advance [(s.cellOf r, v)] := by
  refine ⟨?_, ?_, ?_⟩
  · have h := congrArg State.advance (State.writeReg_frame s r v)
    exact h
  · intro c v' h
    simp only [List.mem_singleton, Prod.mk.injEq] at h
    rw [State.advance_cell, State.cell_writeReg, if_pos h.1.symm, h.2]
  · intro c h
    rw [State.advance_cell, State.cell_writeReg, if_neg]
    intro hc
    exact h v (by simp [hc])

/-- What an instruction does that ends by writing two registers, the second not to the first's cell. -/
theorem wroteInts_writeReg_writeReg (s : State) (r r' : Reg) (v v' : Word)
    (hne : ∀ c, s.cellOf r = some c → s.cellOf r' ≠ some c) :
    WroteInts s ((s.writeReg r v).writeReg r' v').advance [(s.cellOf r, v), (s.cellOf r', v')] := by
  refine ⟨?_, ?_, ?_⟩
  · exact congrArg State.advance (State.writeReg_writeReg_frame s r r' v v')
  · intro c x h
    simp only [List.mem_cons, Prod.mk.injEq, List.not_mem_nil, or_false] at h
    rw [State.advance_cell, State.cell_writeReg, State.writeReg_cellOf, State.cell_writeReg]
    rcases h with ⟨h1, h2⟩ | ⟨h1, h2⟩
    · rw [if_neg (hne c h1.symm), if_pos h1.symm, h2]
    · rw [if_pos h1.symm, h2]
  · intro c h
    rw [State.advance_cell, State.cell_writeReg, State.writeReg_cellOf, State.cell_writeReg,
      if_neg, if_neg]
    · intro hc; exact h v (by simp [hc])
    · intro hc; exact h v' (by simp [hc])

/-! ### Floating-point registers -/

@[simp] theorem State.fWord_setFWord (s : State) (n m : BitVec 6) (v : BitVec 32) :
    (s.setFWord n v).fWord m = if n = m then v else s.fWord m := by
  show (s.f.set (fIndex n) v).get (fIndex m) = _
  rw [vector_get_set]
  have : fIndex n = fIndex m ↔ n = m := by
    constructor
    · intro h; exact BitVec.eq_of_toNat_eq (congrArg Fin.val h)
    · intro h; rw [h]
  simp only [this]
  rfl

@[simp] theorem State.fWord_markDirty (s : State) (n m : BitVec 6) :
    (s.markDirty n).fWord m = s.fWord m := rfl

@[simp] theorem State.fWord_clearCexcFtt (s : State) (m : BitVec 6) :
    s.clearCexcFtt.fWord m = s.fWord m := rfl

end Sys2Proof.Machine
end

