-- ==== Sys2Proof/Laws/Effects.lean ====
section
/-! SUPPORT. What an instruction can do: the checks, the guarded accesses, and the next states exec can
answer, listed once. -/

namespace Sys2Proof.Machine

open Sys2Proof.Config

/-! ### Checks and guarded accesses -/

theorem raiseFirst_cons (s : State) (c : Bool) (e : Exc) (cs : List (Bool × Exc)) (k : Res) :
    raiseFirst s ((c, e) :: cs) k = if c then raise e s else raiseFirst s cs k := rfl

@[simp] theorem raiseFirst_nil (s : State) (k : Res) : raiseFirst s [] k = k := rfl

theorem raiseFirst_append (s : State) (cs ds : List (Bool × Exc)) (k : Res) :
    raiseFirst s (cs ++ ds) k = raiseFirst s cs (raiseFirst s ds k) := by
  induction cs with
  | nil => rfl
  | cons c cs ih =>
    obtain ⟨b, e⟩ := c
    simp only [List.cons_append, raiseFirst_cons, ih]

/-- When no check holds the instruction goes on. -/
theorem raiseFirst_pass (s : State) (cs : List (Bool × Exc)) (k : Res)
    (h : ∀ c ∈ cs, c.1 = false) : raiseFirst s cs k = k := by
  induction cs with
  | nil => rfl
  | cons c cs ih =>
    obtain ⟨b, e⟩ := c
    have hb : b = false := h (b, e) (by simp)
    rw [raiseFirst_cons, hb]
    exact ih fun c hc => h c (by simp [hc])

/-- Everything checks can do: a trap from the unchanged state, or every check fails and the
instruction goes on. -/
theorem raiseFirst_next (s t : State) (cs : List (Bool × Exc)) (k : Res)
    (h : raiseFirst s cs k = .next t) :
    (∃ e, t = takeTrap e s) ∨ ((∀ c ∈ cs, c.1 = false) ∧ k = .next t) := by
  induction cs with
  | nil => exact .inr ⟨by simp, h⟩
  | cons c cs ih =>
    obtain ⟨b, e⟩ := c
    rw [raiseFirst_cons] at h
    split at h
    · exact .inl ⟨e, by simpa [raise] using h.symm⟩
    · rename_i hb
      rcases ih h with h' | ⟨h1, h2⟩
      · exact .inl h'
      · refine .inr ⟨?_, h2⟩
        intro c hc
        rcases List.mem_cons.1 hc with rfl | hc
        · simpa using hb
        · exact h1 c hc

/-- Everything a load's guard can do when it answers a next state. -/
theorem withLoad_next (s t : State) (a : Word) (n : Nat) (k : Res)
    (h : withLoad s a n k = .next t) : s.hasMemory a n = true ∧ k = .next t := by
  unfold withLoad at h
  split at h
  · exact ⟨‹_›, h⟩
  · cases h

/-- Everything a store's guard can do when it answers a next state. -/
theorem withStore_next (s t : State) (a : Word) (n : Nat) (k : Res)
    (h : withStore s a n k = .next t) :
    s.hasMemory a n = true ∧ s.touchesText a n = false ∧ k = .next t := by
  unfold withStore at h
  split at h
  · split at h
    · cases h
    · rename_i hm ht
      exact ⟨hm, Bool.eq_false_iff.2 ht, h⟩
  · cases h

/-- Everything a write of a register with reserved fields can do when it answers a next state. -/
theorem withReserved_next (t : State) (r v : Word) (k : Res)
    (h : withReserved r v k = .next t) : v &&& r = 0 ∧ k = .next t := by
  unfold withReserved at h
  split at h
  · exact ⟨‹_›, h⟩
  · cases h

/-- Everything a branch can do when it answers a next state. -/
theorem branch_next (s t : State) (kind : BranchKind) (annul taken : Bool) (T : Word)
    (h : branch s kind annul taken T = .next t) :
    s.branchInDelaySlot = false ∧
      t = s.setPcs (branchPcs kind annul taken s.npc T).1 (branchPcs kind annul taken s.npc T).2 := by
  unfold branch at h
  split at h
  · cases h
  · rename_i hd
    exact ⟨Bool.eq_false_iff.2 hd, by simpa using h.symm⟩

/-! ### Next states -/

variable {i : Instr}

/-- The next states an instruction i can answer from s. -/
inductive Effect (i : Instr) (s : State) : State → Prop
  /-- It raised an exception. -/
  | trap (e : Exc) : Effect i s (takeTrap e s)
  /-- A branch. -/
  | branch {w : Nat} (disp : BitVec w) (kind : BranchKind) (a taken : Bool) :
      Effect i s (s.setPcs (branchPcs kind a taken s.npc (s.branchTarget disp)).1
        (branchPcs kind a taken s.npc (s.branchTarget disp)).2)
  /-- CASA, CASXA. -/
  | cas (k : BitVec 8) (a : Word) (n : Nat) (rs2 rd : Reg) (hm : s.hasMemory a n = true)
      (ht : s.touchesText a n = false) (hn : n = 4 ∨ n = 8) (ha : a.toNat % n = 0) :
      Effect i s (compareAndSwap s k a n rs2 rd).advance
  /-- SWAP. -/
  | swap (k : BitVec 8) (a : Word) (rd : Reg) (hm : s.hasMemory a 4 = true)
      (ht : s.touchesText a 4 = false) (ha : a.toNat % 4 = 0) :
      Effect i s (swapWord s k a rd).advance
  /-- A floating-point move that moves. -/
  | fmove (size : FpSize) (rd rs2 : Reg) : Effect i s (s.clearCexcFtt.copyF size rd rs2).advance
  /-- A floating-point move that does not. -/
  | fstay : Effect i s s.clearCexcFtt.advance
  /-- LDF. -/
  | loadF32 (n m : BitVec 6) (v : BitVec 32) : Effect i s ((s.setF32 n v).markDirty m).advance
  /-- LDDF. -/
  | loadF64 (n m : BitVec 6) (v : BitVec 64) : Effect i s ((s.setF64 n v).markDirty m).advance
  /-- LDQF. -/
  | loadF128 (n m : BitVec 6) (v : BitVec 128) : Effect i s ((s.setF128 n v).markDirty m).advance
  /-- LDFSR. -/
  | loadFsr (w : BitVec 32) : Effect i s (State.advance { s with fsr := fsrAfterLoadWord s.fsr w })
  /-- LDXFSR. -/
  | loadXfsr (d : Word) : Effect i s (State.advance { s with fsr := fsrAfterLoadExtended s.fsr d })
  /-- LDD, LDDA. -/
  | loadPair (k : BitVec 8) (a : Word) (rd : Reg) : Effect i s (s.loadPair k a rd).advance
  /-- A store of 1, 2, 4 or 8 bytes. -/
  | store (k : BitVec 8) (a : Word) (n v : Nat) (hm : s.hasMemory a n = true)
      (ht : s.touchesText a n = false) (hn : n = 1 ∨ n = 2 ∨ n = 4 ∨ n = 8)
      (ha : a.toNat % n = 0) : Effect i s (s.storeValue k a n v).advance
  /-- STD, STDA. -/
  | storePair (k : BitVec 8) (a x y : Word) (hm : s.hasMemory a 8 = true)
      (ht : s.touchesText a 8 = false) (ha : a.toNat % 8 = 0) :
      Effect i s (s.storePair k a x y).advance
  /-- One integer register written. -/
  | int (rd : Reg) (v : Word) : Effect i s (s.writeReg rd v).advance
  /-- Nothing. -/
  | nop : Effect i s s.advance
  /-- A read of TICK. -/
  | tick (rd : Reg) : Effect i s (s.drawTick.writeReg rd s.drawTick.tick).advance
  /-- WRY. -/
  | wry (v : BitVec 32) : Effect i s (State.advance { s with y := v })
  /-- WRCCR. -/
  | wrccr (v : BitVec 8) : Effect i s (State.advance { s with ccr := v })
  /-- WRASI. -/
  | wrasi (v : BitVec 8) : Effect i s (State.advance { s with asi := v })
  /-- WRFPRS. -/
  | wrfprs (v : BitVec 3) : Effect i s (State.advance { s with fprs := v })
  /-- WRPR. -/
  | wrpr (n rs1 : Reg) (op2 : Operand2) (t : State) (hi : i = .wrpr n rs1 op2) (hp : s.priv = true)
      (hn : n.toNat < 15) (h : s.writePriv n (s.wrValue rs1 op2) = .next t) : Effect i s t
  /-- SAVE. -/
  | save (rd : Reg) (v : Word) (hs : s.cansave ≠ 0)
      (hr : s.canrestore.toNat + 1 ≤ s.params.nwindows - 1) :
      Effect i s ({ s with
        cwp := windowPlus s.params s.cwp 1
        cansave := s.cansave - 1
        canrestore := s.canrestore + 1 }.writeReg rd v).advance
  /-- RESTORE. -/
  | restore (rd : Reg) (v : Word) (hr : s.canrestore ≠ 0)
      (hs : s.cansave.toNat + 1 ≤ s.params.nwindows - 1) :
      Effect i s ({ s with
        cwp := windowMinusOne s.params s.cwp
        cansave := s.cansave + 1
        canrestore := s.canrestore - 1 }.writeReg rd v).advance
  /-- SAVED with OTHERWIN = 0. -/
  | savedNormal (hp : s.priv = true) (hs : s.cansave.toNat + 1 ≤ s.params.nwindows - 1)
      (hr : s.canrestore ≠ 0) :
      Effect i s (State.advance { s with
        cansave := s.cansave + 1
        canrestore := s.canrestore - 1 })
  /-- SAVED with OTHERWIN not 0. -/
  | savedOther (hp : s.priv = true) (hs : s.cansave.toNat + 1 ≤ s.params.nwindows - 1)
      (ho : s.otherwin ≠ 0) :
      Effect i s (State.advance { s with
        cansave := s.cansave + 1
        otherwin := s.otherwin - 1 })
  /-- RESTORED with OTHERWIN = 0. -/
  | restoredNormal (hp : s.priv = true) (hr : s.canrestore.toNat + 1 ≤ s.params.nwindows - 1)
      (hs : s.cansave ≠ 0) :
      Effect i s (State.advance { s with
        canrestore := s.canrestore + 1
        cleanwin := s.restoredCleanwin
        cansave := s.cansave - 1 })
  /-- RESTORED with OTHERWIN not 0. -/
  | restoredOther (hp : s.priv = true) (hr : s.canrestore.toNat + 1 ≤ s.params.nwindows - 1)
      (ho : s.otherwin ≠ 0) :
      Effect i s (State.advance { s with
        canrestore := s.canrestore + 1
        cleanwin := s.restoredCleanwin
        otherwin := s.otherwin - 1 })
  /-- TADDcc, TADDccTV. -/
  | tadd (ccr : BitVec 8) (rd : Reg) (v : Word) :
      Effect i s ({ s with ccr := ccr }.writeReg rd v).advance

theorem misaligned_eq_false (a : Word) (n : Nat) : misaligned a n = false ↔ a.toNat % n = 0 := by
  simp [misaligned]

theorem winregInc_eq_some (p : Params) (r x : BitVec 5) :
    winregInc p r = some x ↔ r.toNat + 1 ≤ p.nwindows - 1 ∧ x = r + 1 := by
  unfold winregInc
  split
  · simp; omega
  · simp only [Option.some.injEq, eq_comm (a := r + 1)]
    constructor
    · intro h; exact ⟨by omega, h⟩
    · intro h; exact h.2

theorem winregDec_eq_some (r x : BitVec 5) : winregDec r = some x ↔ r ≠ 0 ∧ x = r - 1 := by
  unfold winregDec
  split
  · simp_all
  · rename_i hr
    simp only [Option.some.injEq, eq_comm (a := r - 1)]
    constructor
    · intro h; exact ⟨hr, h⟩
    · intro h; exact h.2

theorem effect_branch (s t : State) {w : Nat} (disp : BitVec w) (kind : BranchKind) (a taken : Bool)
    (h : Machine.branch s kind a taken (s.branchTarget disp) = .next t) : Effect i s t := by
  rw [(branch_next s t kind a taken _ h).2]
  exact .branch disp kind a taken

theorem effect_bicc (c : ICond) (a : Bool) (d : BitVec 22) (s t : State)
    (h : bicc c a d s = .next t) : Effect i s t := effect_branch s t d _ _ _ h

theorem effect_bpcc (c : ICond) (a : Bool) (cc : CcSel) (d : BitVec 19) (s t : State)
    (h : bpcc c a cc d s = .next t) : Effect i s t := effect_branch s t d _ _ _ h

theorem effect_bpr (c : RCond) (a : Bool) (r : Reg) (d : BitVec 16) (s t : State)
    (h : bpr c a r d s = .next t) : Effect i s t := effect_branch s t d _ _ _ h

theorem effect_fbfcc (c : FCond) (a : Bool) (d : BitVec 22) (s t : State)
    (h : fbfcc c a d s = .next t) : Effect i s t := by
  rcases raiseFirst_next _ _ _ _ h with ⟨e, rfl⟩ | ⟨-, h⟩
  · exact .trap e
  · exact effect_branch s t d _ _ _ h

theorem effect_fbpfcc (c : FCond) (a : Bool) (cc : FccSel) (d : BitVec 19) (s t : State)
    (h : fbpfcc c a cc d s = .next t) : Effect i s t := by
  rcases raiseFirst_next _ _ _ _ h with ⟨e, rfl⟩ | ⟨-, h⟩
  · exact .trap e
  · exact effect_branch s t d _ _ _ h

theorem next_inj {s t : State} (h : (Host.Outcome.next s : Res) = .next t) : t = s := by
  cases h; rfl

theorem effect_casN (n : Nat) (hn : n = 4 ∨ n = 8) (rd rs1 : Reg) (asi : CasAsi) (rs2 : Reg)
    (s t : State) (h : casN n rd rs1 asi rs2 s = .next t) : Effect i s t := by
  rcases raiseFirst_next _ _ _ _ h with ⟨e, rfl⟩ | ⟨hc, h⟩
  · exact .trap e
  · obtain ⟨hm, ht, h⟩ := withStore_next _ _ _ _ _ h
    rw [next_inj h]
    exact .cas _ _ n rs2 rd hm ht hn
      ((misaligned_eq_false _ _).1 (hc (misaligned _ _, .memAddressNotAligned) (by simp [casChecks, alignmentCheck])))

theorem effect_fmov (size : FpSize) (moves : Bool) (rd rs2 : Reg) (s t : State)
    (h : fmov size moves rd rs2 s = .next t) : Effect i s t := by
  rcases raiseFirst_next _ _ _ _ h with ⟨e, rfl⟩ | ⟨-, h⟩
  · exact .trap e
  · rw [next_inj h]
    split
    · exact .fmove size rd rs2
    · exact .fstay

theorem effect_storeN (n : Nat) (hn : n = 1 ∨ n = 2 ∨ n = 4 ∨ n = 8) (rd rs1 : Reg) (op2 : Operand2)
    (s t : State) (h : storeN n rd rs1 op2 s = .next t) : Effect i s t := by
  rcases raiseFirst_next _ _ _ _ h with ⟨e, rfl⟩ | ⟨hc, h⟩
  · exact .trap e
  · obtain ⟨hm, ht, h⟩ := withStore_next _ _ _ _ _ h
    rw [next_inj h]
    exact .store _ _ n _ hm ht hn
      ((misaligned_eq_false _ _).1 (hc (misaligned _ _, .memAddressNotAligned) (by simp [alignmentCheck])))

theorem effect_storeAltN (n : Nat) (hn : n = 1 ∨ n = 2 ∨ n = 4 ∨ n = 8) (rd rs1 : Reg)
    (alt : AltOperand) (s t : State) (h : storeAltN n rd rs1 alt s = .next t) : Effect i s t := by
  rcases raiseFirst_next _ _ _ _ h with ⟨e, rfl⟩ | ⟨hc, h⟩
  · exact .trap e
  · obtain ⟨hm, ht, h⟩ := withStore_next _ _ _ _ _ h
    rw [next_inj h]
    exact .store _ _ n _ hm ht hn ((misaligned_eq_false _ _).1
      (hc (misaligned _ _, .memAddressNotAligned) (by simp [altStoreChecks, alignmentCheck])))

theorem effect_movr (c : RCond) (rd rs1 : Reg) (v : MovrOperand) (s t : State)
    (h : movr c rd rs1 v s = .next t) : Effect i s t := by
  rw [next_inj h]
  split
  · exact .int rd _
  · exact .nop

theorem effect_swap {rd rs1 op2} (s t : State)
    (h : exec (.swap rd rs1 op2) s = .next t) : Effect i s t := by
  rcases raiseFirst_next _ _ _ _ h with ⟨e, rfl⟩ | ⟨hc, h⟩
  · exact .trap e
  · obtain ⟨hm, ht, h⟩ := withStore_next _ _ _ _ _ h
    rw [next_inj h]
    exact .swap _ _ rd hm ht
      ((misaligned_eq_false _ _).1 (hc (misaligned _ _, .memAddressNotAligned) (by simp [alignmentCheck])))

theorem effect_ldf {rd rs1 op2} (s t : State)
    (h : exec (.ldf rd rs1 op2) s = .next t) : Effect i s t := by
  rcases raiseFirst_next _ _ _ _ h with ⟨e, rfl⟩ | ⟨-, h⟩
  · exact .trap e
  · rw [next_inj (withLoad_next _ _ _ _ _ h).2]; exact .loadF32 _ _ _

theorem effect_lddf {rd rs1 op2} (s t : State)
    (h : exec (.lddf rd rs1 op2) s = .next t) : Effect i s t := by
  rcases raiseFirst_next _ _ _ _ h with ⟨e, rfl⟩ | ⟨-, h⟩
  · exact .trap e
  · rw [next_inj (withLoad_next _ _ _ _ _ h).2]; exact .loadF64 _ _ _

theorem effect_ldqf {rd rs1 op2} (s t : State)
    (h : exec (.ldqf rd rs1 op2) s = .next t) : Effect i s t := by
  rcases raiseFirst_next _ _ _ _ h with ⟨e, rfl⟩ | ⟨-, h⟩
  · exact .trap e
  · split at h
    · cases h
    · rw [next_inj (withLoad_next _ _ _ _ _ h).2]; exact .loadF128 _ _ _

theorem effect_ldfsr {rs1 op2} (s t : State)
    (h : exec (.ldfsr rs1 op2) s = .next t) : Effect i s t := by
  rcases raiseFirst_next _ _ _ _ h with ⟨e, rfl⟩ | ⟨-, h⟩
  · exact .trap e
  · rw [next_inj (withReserved_next _ _ _ _ (withLoad_next _ _ _ _ _ h).2).2]; exact .loadFsr _

theorem effect_ldxfsr {rs1 op2} (s t : State)
    (h : exec (.ldxfsr rs1 op2) s = .next t) : Effect i s t := by
  rcases raiseFirst_next _ _ _ _ h with ⟨e, rfl⟩ | ⟨-, h⟩
  · exact .trap e
  · rw [next_inj (withReserved_next _ _ _ _ (withLoad_next _ _ _ _ _ h).2).2]; exact .loadXfsr _

theorem effect_ldd {rd rs1 op2} (s t : State)
    (h : exec (.ldd rd rs1 op2) s = .next t) : Effect i s t := by
  rcases raiseFirst_next _ _ _ _ h with ⟨e, rfl⟩ | ⟨-, h⟩
  · exact .trap e
  · rw [next_inj (withLoad_next _ _ _ _ _ h).2]; exact .loadPair _ _ _

theorem effect_ldda {rd rs1 alt} (s t : State)
    (h : exec (.ldda rd rs1 alt) s = .next t) : Effect i s t := by
  rcases raiseFirst_next _ _ _ _ h with ⟨e, rfl⟩ | ⟨-, h⟩
  · exact .trap e
  · rw [next_inj (withLoad_next _ _ _ _ _ h).2]; exact .loadPair _ _ _

theorem effect_std {rd rs1 op2} (s t : State)
    (h : exec (.std rd rs1 op2) s = .next t) : Effect i s t := by
  rcases raiseFirst_next _ _ _ _ h with ⟨e, rfl⟩ | ⟨hc, h⟩
  · exact .trap e
  · obtain ⟨hm, ht, h⟩ := withStore_next _ _ _ _ _ h
    rw [next_inj h]
    exact .storePair _ _ _ _ hm ht ((misaligned_eq_false _ _).1
      (hc (misaligned _ _, .memAddressNotAligned) (by simp [oddRdCheck, alignmentCheck])))

theorem effect_stda {rd rs1 alt} (s t : State)
    (h : exec (.stda rd rs1 alt) s = .next t) : Effect i s t := by
  rcases raiseFirst_next _ _ _ _ h with ⟨e, rfl⟩ | ⟨hc, h⟩
  · exact .trap e
  · obtain ⟨hm, ht, h⟩ := withStore_next _ _ _ _ _ h
    rw [next_inj h]
    exact .storePair _ _ _ _ hm ht ((misaligned_eq_false _ _).1
      (hc (misaligned _ _, .memAddressNotAligned) (by simp [oddRdCheck, altStoreChecks, alignmentCheck])))

theorem effect_rdtick {rd} (s t : State)
    (h : exec (.rdtick rd) s = .next t) : Effect i s t := by
  rcases raiseFirst_next _ _ _ _ h with ⟨e, rfl⟩ | ⟨-, h⟩
  · exact .trap e
  · rw [next_inj h]; exact .tick _

theorem effect_sir {simm13} (s t : State)
    (h : exec (.sir simm13) s = .next t) : Effect i s t := by
  simp only [exec, execSir] at h
  split at h
  · rw [next_inj h]; exact .trap _
  · rw [next_inj h]; exact .nop

theorem effect_rdpr {rd rs1} (s t : State)
    (h : exec (.rdpr rd rs1) s = .next t) : Effect i s t := by
  rcases raiseFirst_next _ _ _ _ h with ⟨e, rfl⟩ | ⟨-, h⟩
  · exact .trap e
  · rw [next_inj h]
    unfold State.privRead
    split
    · rename_i hr; subst hr; exact .tick _
    · exact .int _ _

theorem effect_wrpr {rd rs1 op2} (s t : State)
    (h : exec (.wrpr rd rs1 op2) s = .next t) : Effect (.wrpr rd rs1 op2) s t := by
  rcases raiseFirst_next _ _ _ _ h with ⟨e, rfl⟩ | ⟨hc, h⟩
  · exact .trap e
  · have h1 := hc (!s.priv, .privilegedOpcode) (by simp)
    have h2 := hc (decide (15 ≤ rd.toNat), .illegalInstruction) (by simp)
    exact .wrpr rd rs1 op2 t rfl (by simpa using h1) (by simpa using h2) h

theorem effect_save {rd rs1 op2} (s t : State)
    (h : exec (.save rd rs1 op2) s = .next t) : Effect i s t := by
  rcases raiseFirst_next _ _ _ _ h with ⟨e, rfl⟩ | ⟨hc, h⟩
  · exact .trap e
  · have h1 := hc (decide (s.cansave = 0), s.spillExc) (by simp)
    split at h
    · cases h
    · rename_i x hx
      obtain ⟨h2, rfl⟩ := (winregInc_eq_some _ _ _).1 hx
      rw [next_inj h]
      exact .save _ _ (by simpa using h1) h2

theorem effect_restore {rd rs1 op2} (s t : State)
    (h : exec (.restore rd rs1 op2) s = .next t) : Effect i s t := by
  rcases raiseFirst_next _ _ _ _ h with ⟨e, rfl⟩ | ⟨hc, h⟩
  · exact .trap e
  · have h1 := hc (decide (s.canrestore = 0), s.fillExc) (by simp)
    split at h
    · cases h
    · rename_i x hx
      obtain ⟨h2, rfl⟩ := (winregInc_eq_some _ _ _).1 hx
      rw [next_inj h]
      exact .restore _ _ (by simpa using h1) h2

theorem effect_saved (s t : State)
    (h : exec .saved s = .next t) : Effect i s t := by
  rcases raiseFirst_next _ _ _ _ h with ⟨e, rfl⟩ | ⟨hc, h⟩
  · exact .trap e
  · have hp : s.priv = true := by simpa using hc (!s.priv, .privilegedOpcode) (by simp)
    split at h
    · rename_i x y hx hy
      obtain ⟨h1, rfl⟩ := (winregInc_eq_some _ _ _).1 hx
      obtain ⟨h2, rfl⟩ := (winregDec_eq_some _ _).1 hy
      rw [next_inj h]
      by_cases ho : s.otherwin = 0
      · rw [if_pos ho] at h2 ⊢
        rw [if_pos ho]
        exact .savedNormal hp h1 h2
      · rw [if_neg ho] at h2 ⊢
        rw [if_neg ho]
        exact .savedOther hp h1 h2
    · cases h

theorem effect_restored (s t : State)
    (h : exec .restored s = .next t) : Effect i s t := by
  rcases raiseFirst_next _ _ _ _ h with ⟨e, rfl⟩ | ⟨hc, h⟩
  · exact .trap e
  · have hp : s.priv = true := by simpa using hc (!s.priv, .privilegedOpcode) (by simp)
    split at h
    · rename_i x y hx hy
      obtain ⟨h1, rfl⟩ := (winregInc_eq_some _ _ _).1 hx
      obtain ⟨h2, rfl⟩ := (winregDec_eq_some _ _).1 hy
      rw [next_inj h]
      by_cases ho : s.otherwin = 0
      · rw [if_pos ho] at h2 ⊢
        rw [if_pos ho]
        exact .restoredNormal hp h1 h2
      · rw [if_neg ho] at h2 ⊢
        rw [if_neg ho]
        exact .restoredOther hp h1 h2
    · cases h

theorem effect_taddcctv {rd rs1 op2} (s t : State)
    (h : exec (.taddcctv rd rs1 op2) s = .next t) : Effect i s t := by
  rcases raiseFirst_next _ _ _ _ h with ⟨e, rfl⟩ | ⟨-, h⟩
  · exact .trap e
  · rw [next_inj h]; exact .tadd _ _ _

/-- Every next state exec answers is one of the listed. -/
theorem exec_effect (i : Instr) (s t : State) (h : exec i s = .next t) : Effect i s t := by
  cases i
  case casa => exact effect_casN 4 (.inl rfl) _ _ _ _ _ _ h
  case casxa => exact effect_casN 8 (.inr rfl) _ _ _ _ _ _ h
  case swap => exact effect_swap _ _ h
  case nop => rw [next_inj h]; exact .nop
  case ldf => exact effect_ldf _ _ h
  case lddf => exact effect_lddf _ _ h
  case ldqf => exact effect_ldqf _ _ h
  case ldfsr => exact effect_ldfsr _ _ h
  case ldxfsr => exact effect_ldxfsr _ _ h
  case ldd => exact effect_ldd _ _ h
  case ldda => exact effect_ldda _ _ h
  case stb => exact effect_storeN 1 (by simp) _ _ _ _ _ h
  case sth => exact effect_storeN 2 (by simp) _ _ _ _ _ h
  case stw => exact effect_storeN 4 (by simp) _ _ _ _ _ h
  case stx => exact effect_storeN 8 (by simp) _ _ _ _ _ h
  case stba => exact effect_storeAltN 1 (by simp) _ _ _ _ _ h
  case stha => exact effect_storeAltN 2 (by simp) _ _ _ _ _ h
  case stwa => exact effect_storeAltN 4 (by simp) _ _ _ _ _ h
  case stxa => exact effect_storeAltN 8 (by simp) _ _ _ _ _ h
  case std => exact effect_std _ _ h
  case stda => exact effect_stda _ _ h
  case rdy => rw [next_inj h]; exact .int _ _
  case rdccr => rw [next_inj h]; exact .int _ _
  case rdasi => rw [next_inj h]; exact .int _ _
  case rdpc => rw [next_inj h]; exact .int _ _
  case rdfprs => rw [next_inj h]; exact .int _ _
  case rdtick => exact effect_rdtick _ _ h
  case rdasr16_31 => rw [next_inj h]; exact .trap _
  case wrasr16_31 => rw [next_inj h]; exact .trap _
  case wry => rw [next_inj h]; exact .wry _
  case wrccr => rw [next_inj h]; exact .wrccr _
  case wrasi => rw [next_inj h]; exact .wrasi _
  case wrfprs => rw [next_inj h]; exact .wrfprs _
  case sir => exact effect_sir _ _ h
  case rdpr => exact effect_rdpr _ _ h
  case wrpr => exact effect_wrpr _ _ h
  case save => exact effect_save _ _ h
  case restore => exact effect_restore _ _ h
  case saved => exact effect_saved _ _ h
  case restored => exact effect_restored _ _ h
  case taddcc => rw [next_inj h]; exact .tadd _ _ _
  case taddcctv => exact effect_taddcctv _ _ h
  case bn => exact effect_bicc _ _ _ _ _ h
  case be => exact effect_bicc _ _ _ _ _ h
  case ble => exact effect_bicc _ _ _ _ _ h
  case bl => exact effect_bicc _ _ _ _ _ h
  case bleu => exact effect_bicc _ _ _ _ _ h
  case bcs => exact effect_bicc _ _ _ _ _ h
  case bneg => exact effect_bicc _ _ _ _ _ h
  case bvs => exact effect_bicc _ _ _ _ _ h
  case ba => exact effect_bicc _ _ _ _ _ h
  case bne => exact effect_bicc _ _ _ _ _ h
  case bg => exact effect_bicc _ _ _ _ _ h
  case bge => exact effect_bicc _ _ _ _ _ h
  case bgu => exact effect_bicc _ _ _ _ _ h
  case bcc => exact effect_bicc _ _ _ _ _ h
  case bpos => exact effect_bicc _ _ _ _ _ h
  case bvc => exact effect_bicc _ _ _ _ _ h
  case bpn => exact effect_bpcc _ _ _ _ _ _ h
  case bpe => exact effect_bpcc _ _ _ _ _ _ h
  case bple => exact effect_bpcc _ _ _ _ _ _ h
  case bpl => exact effect_bpcc _ _ _ _ _ _ h
  case bpleu => exact effect_bpcc _ _ _ _ _ _ h
  case bpcs => exact effect_bpcc _ _ _ _ _ _ h
  case bpneg => exact effect_bpcc _ _ _ _ _ _ h
  case bpvs => exact effect_bpcc _ _ _ _ _ _ h
  case bpa => exact effect_bpcc _ _ _ _ _ _ h
  case bpne => exact effect_bpcc _ _ _ _ _ _ h
  case bpg => exact effect_bpcc _ _ _ _ _ _ h
  case bpge => exact effect_bpcc _ _ _ _ _ _ h
  case bpgu => exact effect_bpcc _ _ _ _ _ _ h
  case bpcc => exact effect_bpcc _ _ _ _ _ _ h
  case bppos => exact effect_bpcc _ _ _ _ _ _ h
  case bpvc => exact effect_bpcc _ _ _ _ _ _ h
  case brz => exact effect_bpr _ _ _ _ _ _ h
  case brlez => exact effect_bpr _ _ _ _ _ _ h
  case brlz => exact effect_bpr _ _ _ _ _ _ h
  case brnz => exact effect_bpr _ _ _ _ _ _ h
  case brgz => exact effect_bpr _ _ _ _ _ _ h
  case brgez => exact effect_bpr _ _ _ _ _ _ h
  case fbn => exact effect_fbfcc _ _ _ _ _ h
  case fbne => exact effect_fbfcc _ _ _ _ _ h
  case fblg => exact effect_fbfcc _ _ _ _ _ h
  case fbul => exact effect_fbfcc _ _ _ _ _ h
  case fbl => exact effect_fbfcc _ _ _ _ _ h
  case fbug => exact effect_fbfcc _ _ _ _ _ h
  case fbg => exact effect_fbfcc _ _ _ _ _ h
  case fbu => exact effect_fbfcc _ _ _ _ _ h
  case fba => exact effect_fbfcc _ _ _ _ _ h
  case fbe => exact effect_fbfcc _ _ _ _ _ h
  case fbue => exact effect_fbfcc _ _ _ _ _ h
  case fbge => exact effect_fbfcc _ _ _ _ _ h
  case fbuge => exact effect_fbfcc _ _ _ _ _ h
  case fble => exact effect_fbfcc _ _ _ _ _ h
  case fbule => exact effect_fbfcc _ _ _ _ _ h
  case fbo => exact effect_fbfcc _ _ _ _ _ h
  case fbpn => exact effect_fbpfcc _ _ _ _ _ _ h
  case fbpne => exact effect_fbpfcc _ _ _ _ _ _ h
  case fbplg => exact effect_fbpfcc _ _ _ _ _ _ h
  case fbpul => exact effect_fbpfcc _ _ _ _ _ _ h
  case fbpl => exact effect_fbpfcc _ _ _ _ _ _ h
  case fbpug => exact effect_fbpfcc _ _ _ _ _ _ h
  case fbpg => exact effect_fbpfcc _ _ _ _ _ _ h
  case fbpu => exact effect_fbpfcc _ _ _ _ _ _ h
  case fbpa => exact effect_fbpfcc _ _ _ _ _ _ h
  case fbpe => exact effect_fbpfcc _ _ _ _ _ _ h
  case fbpue => exact effect_fbpfcc _ _ _ _ _ _ h
  case fbpge => exact effect_fbpfcc _ _ _ _ _ _ h
  case fbpuge => exact effect_fbpfcc _ _ _ _ _ _ h
  case fbple => exact effect_fbpfcc _ _ _ _ _ _ h
  case fbpule => exact effect_fbpfcc _ _ _ _ _ _ h
  case fbpo => exact effect_fbpfcc _ _ _ _ _ _ h
  case fmovscc_fcc0 => exact effect_fmov _ _ _ _ _ _ h
  case fmovscc_fcc1 => exact effect_fmov _ _ _ _ _ _ h
  case fmovscc_fcc2 => exact effect_fmov _ _ _ _ _ _ h
  case fmovscc_fcc3 => exact effect_fmov _ _ _ _ _ _ h
  case fmovscc_icc => exact effect_fmov _ _ _ _ _ _ h
  case fmovscc_xcc => exact effect_fmov _ _ _ _ _ _ h
  case fmovdcc_fcc0 => exact effect_fmov _ _ _ _ _ _ h
  case fmovdcc_fcc1 => exact effect_fmov _ _ _ _ _ _ h
  case fmovdcc_fcc2 => exact effect_fmov _ _ _ _ _ _ h
  case fmovdcc_fcc3 => exact effect_fmov _ _ _ _ _ _ h
  case fmovdcc_icc => exact effect_fmov _ _ _ _ _ _ h
  case fmovdcc_xcc => exact effect_fmov _ _ _ _ _ _ h
  case fmovqcc_fcc0 => exact effect_fmov _ _ _ _ _ _ h
  case fmovqcc_fcc1 => exact effect_fmov _ _ _ _ _ _ h
  case fmovqcc_fcc2 => exact effect_fmov _ _ _ _ _ _ h
  case fmovqcc_fcc3 => exact effect_fmov _ _ _ _ _ _ h
  case fmovqcc_icc => exact effect_fmov _ _ _ _ _ _ h
  case fmovqcc_xcc => exact effect_fmov _ _ _ _ _ _ h
  case fmovrsz => exact effect_fmov _ _ _ _ _ _ h
  case fmovrslez => exact effect_fmov _ _ _ _ _ _ h
  case fmovrslz => exact effect_fmov _ _ _ _ _ _ h
  case fmovrsnz => exact effect_fmov _ _ _ _ _ _ h
  case fmovrsgz => exact effect_fmov _ _ _ _ _ _ h
  case fmovrsgez => exact effect_fmov _ _ _ _ _ _ h
  case fmovrdz => exact effect_fmov _ _ _ _ _ _ h
  case fmovrdlez => exact effect_fmov _ _ _ _ _ _ h
  case fmovrdlz => exact effect_fmov _ _ _ _ _ _ h
  case fmovrdnz => exact effect_fmov _ _ _ _ _ _ h
  case fmovrdgz => exact effect_fmov _ _ _ _ _ _ h
  case fmovrdgez => exact effect_fmov _ _ _ _ _ _ h
  case fmovrqz => exact effect_fmov _ _ _ _ _ _ h
  case fmovrqlez => exact effect_fmov _ _ _ _ _ _ h
  case fmovrqlz => exact effect_fmov _ _ _ _ _ _ h
  case fmovrqnz => exact effect_fmov _ _ _ _ _ _ h
  case fmovrqgz => exact effect_fmov _ _ _ _ _ _ h
  case fmovrqgez => exact effect_fmov _ _ _ _ _ _ h
  case movrz => exact effect_movr _ _ _ _ _ _ h
  case movrlez => exact effect_movr _ _ _ _ _ _ h
  case movrlz => exact effect_movr _ _ _ _ _ _ h
  case movrnz => exact effect_movr _ _ _ _ _ _ h
  case movrgz => exact effect_movr _ _ _ _ _ _ h
  case movrgez => exact effect_movr _ _ _ _ _ _ h

end Sys2Proof.Machine
end

