-- ==== Sys2Proof/Machine/Run.lean ====
section
/-! DEFINITION. The run of a program over `step`, and where it ends (spec/92_eei_decisions.md D1, D20;
70_reset_and_hazards.md R431). -/

namespace Sys2Proof.Machine

/-- How far a run has come, or how it has ended (D20). -/
inductive RunResult where
  /-- The run goes on. -/
  | running (s : State)
  /-- The normal end: the PC is the exit address, outside the program text. -/
  | programEnd (s : State)
  /-- The end at the first trap: the trap type, and the state right after the trap entry, which holds
  the saved state. -/
  | firstTrap (tt : BitVec 9) (s : State)
  /-- error_state, the only state in which the processor does not run (60_exceptions.md R375). -/
  | errorState (s : State)
  /-- The end at a fault of the model. -/
  | fault (f : Fault) (s : State)
  /-- The end at a refusal. -/
  | refused (r : Refusal) (s : State)
  deriving DecidableEq, Repr

/-- The instruction at the PC is a WRPR of TL that may write it: the one instruction that moves TL
without a trap (45_state_register_access.md R297). -/
def State.writesTl (s : State) : Bool :=
  s.priv && (match decode (s.wordAt s.pc) with
    | .instr (.wrpr rd _ _) => decide (rd = 7)
    | _ => false)

/-- The step from s to t has taken a trap: it has moved TL, and not by a WRPR, or it has entered
error_state (60_exceptions.md R372, R374, R375). -/
def tookTrap (s t : State) : Bool := t.errorState || (decide (t.tl ≠ s.tl) && !s.writesTl)

/-- One step of a run: it ends when the PC leaves the program text, at the first trap, at a refusal or at
a fault, and in error_state it is stuck (D1, D20; R431). -/
def runStep (s : State) : RunResult :=
  match step s with
  | .fault (.programEnd _) => .programEnd s
  | .fault .stuckInErrorState => .errorState s
  | .fault f => .fault f s
  | .refused r => .refused r s
  | .next t =>
    if t.errorState then .errorState t
    else if tookTrap s t then .firstTrap (t.trapRegs t.tl).tt t
    else .running t

/-- A run goes on from where it is, or has ended. -/
def RunResult.andThen (r : RunResult) (k : State → RunResult) : RunResult :=
  match r with
  | .running t => k t
  | .programEnd s => .programEnd s
  | .firstTrap tt s => .firstTrap tt s
  | .errorState s => .errorState s
  | .fault f s => .fault f s
  | .refused e s => .refused e s

/-- A run of at most k steps. -/
def runProgram : Nat → State → RunResult
  | 0, s => .running s
  | k + 1, s => (runStep s).andThen fun t => runProgram k t

end Sys2Proof.Machine
end

