-- ==== Sys2Proof/Laws/Run.lean ====
section
/-! SUPPORT. Which pending exception is taken, which steps take a trap, and where a run ends. -/

namespace Sys2Proof.Machine

open Sys2Proof.Config

/-! ### The pending exception that is taken -/

/-- Everything highestPriority can answer: a pending exception, and none has a smaller number. -/
theorem highestPriority_some (es : List Exc) (e : Exc) (h : highestPriority es = some e) :
    e ∈ es ∧ ∀ e' ∈ es, e.priority ≤ e'.priority := by
  induction es generalizing e with
  | nil => cases h
  | cons x xs ih =>
    unfold highestPriority at h
    cases hx : highestPriority xs with
    | none =>
      rw [hx] at h
      cases xs with
      | nil => cases h; simp
      | cons y ys =>
        unfold highestPriority at hx
        cases hy : highestPriority ys <;> rw [hy] at hx
        · cases hx
        · dsimp only at hx; split at hx <;> cases hx
    | some y =>
      obtain ⟨hm, hl⟩ := ih y hx
      rw [hx] at h
      dsimp only at h
      split at h
      · rename_i hb
        have hb' : y.priority < x.priority := of_decide_eq_true hb
        cases h
        refine ⟨List.mem_cons_of_mem _ hm, fun e' he => ?_⟩
        rcases List.mem_cons.1 he with rfl | he
        · omega
        · exact hl e' he
      · rename_i hb
        have hb' : ¬ y.priority < x.priority := fun h => hb (decide_eq_true h)
        cases h
        refine ⟨List.mem_cons_self, fun e' he => ?_⟩
        rcases List.mem_cons.1 he with rfl | he
        · omega
        · have := hl e' he; omega

/-- Power-on reset is taken before an implementation-dependent exception and a trap instruction,
whatever number the implementation gives the former, if that is not 0 (R366, R367). -/
theorem highestPriority_powerOn (h : 0 < implPriority 0#5) :
    highestPriority [.trapInstruction 0, .implementationDependent 0, .powerOnReset]
      = some .powerOnReset := by
  simp [highestPriority, Exc.before, Exc.priority, h]

/-! ### Traps -/

/-- Below MAXTL a trap is an entry at TL + 1 that is not error_state; the trap type is saved there. -/
theorem takeTrap_below (e : Exc) (s : State) (h : s.tl.toNat < s.params.maxtl) :
    (takeTrap e s).tl = s.tl + 1 ∧ (takeTrap e s).errorState = s.errorState ∧
      ((takeTrap e s).trapRegs (takeTrap e s).tl).tt = e.tt := by
  have hr : (recordFp e s).tl = s.tl ∧ (recordFp e s).params = s.params ∧
      (recordFp e s).errorState = s.errorState := by cases e <;> exact ⟨rfl, rfl, rfl⟩
  have hmin : BitVec.ofNat 3 (min (s.tl.toNat + 1) s.params.maxtl) = s.tl + 1 := by
    rw [Nat.min_eq_left (by omega)]
    exact BitVec.eq_of_toNat_eq (by simp)
  unfold takeTrap
  rw [if_neg (by omega)]
  split
  · simp [redTrap, State.setTrapRegs, State.trapRegs, hmin, vector_get_set, trapFrame]
  · simp [normalTrap, State.setTrapRegs, State.trapRegs, vector_get_set, trapFrame]

/-- At MAXTL a trap sets the error_state flag and changes nothing else. -/
theorem takeTrap_max (e : Exc) (s : State) (h : s.params.maxtl ≤ s.tl.toNat) :
    takeTrap e s = { s with errorState := true } := by
  unfold takeTrap
  rw [if_pos h]
  rfl

/-- Everything a step can do when it answers a next state: a trap from the state it started in, or the
instruction at the PC. -/
theorem step_next (s t : State) (h : step s = .next t) :
    s.errorState = false ∧ ((∃ e, t = takeTrap e s) ∨
      ∃ i, decode (s.wordAt s.pc) = .instr i ∧ exec i s = .next t) := by
  unfold step at h
  split at h
  · cases h
  · rename_i hf
    refine ⟨?_, ?_⟩
    · unfold fetchFault at hf
      split at hf
      · cases hf
      · exact Bool.eq_false_iff.2 ‹_›
    · split at h
      · exact .inr ⟨_, ‹_›, h⟩
      · rename_i d _
        cases d <;> simp only [execStop, raise, raiseFirst] at h <;> (try split at h) <;>
          (try split at h) <;> first | exact .inl ⟨_, next_inj h⟩ | cases h

/-- A write of a privileged register leaves error_state, and TL unless it writes TL. -/
theorem writePriv_tl (n : Reg) (v : Word) (s t : State) (hn : n.toNat < 15)
    (h : s.writePriv n v = .next t) : t.errorState = s.errorState ∧ (t.tl = s.tl ∨ n = 7) := by
  unfold State.writePriv at h
  split at h
  case h_8 h7 =>
    split at h
    · cases h
    · rw [next_inj h]; exact ⟨rfl, .inr (BitVec.eq_of_toNat_eq h7)⟩
  case h_16 =>
    exfalso
    simp only [imp_false] at *
    omega
  case h_7 =>
    split at h
    · cases h
    · rw [next_inj h]; exact ⟨rfl, .inl rfl⟩
  all_goals first
    | (rw [next_inj h]; exact ⟨rfl, .inl rfl⟩)
    | (rw [next_inj (withReserved_next _ _ _ _ h).2]; exact ⟨rfl, .inl rfl⟩)
    | (unfold withWinreg at h; split at h
       · cases h
       · rw [next_inj h]; exact ⟨rfl, .inl rfl⟩)

/-- What an instruction that takes no trap leaves: error_state as it was, and TL too unless it is a
WRPR of TL in privileged mode. -/
theorem effect_tl (i : Instr) (s t : State) (h : Effect i s t) :
    (∃ e, t = takeTrap e s) ∨ (t.errorState = s.errorState ∧
      (t.tl = s.tl ∨ (s.priv = true ∧ ∃ rs1 op2, i = .wrpr 7 rs1 op2))) := by
  cases h
  case trap e => exact .inl ⟨e, rfl⟩
  case wrpr n rs1 op2 hi hp hn h =>
    obtain ⟨he, ht | rfl⟩ := writePriv_tl _ _ _ _ hn h
    · exact .inr ⟨he, .inl ht⟩
    · exact .inr ⟨he, .inr ⟨hp, rs1, op2, hi⟩⟩
  case cas k a n rs2 rd _ _ _ _ =>
    refine .inr ?_
    unfold compareAndSwap
    dsimp only
    split <;> simp
  case fmove size rd rs2 => refine .inr ?_; cases size <;> simp [State.copyF]
  all_goals
    refine .inr ?_
    simp [swapWord, State.loadPair]

/-! ### Which steps take a trap -/

/-- A step that tookTrap marks is a trap from the state it started in. -/
theorem tookTrap_sound (s t : State) (h : step s = .next t) (ht : tookTrap s t = true) :
    ∃ e, t = takeTrap e s := by
  obtain ⟨he, h | ⟨i, hd, hx⟩⟩ := step_next s t h
  · exact h
  · rcases effect_tl i s t (exec_effect i s t hx) with h | ⟨hes, h | ⟨hp, rs1, op2, rfl⟩⟩
    · exact h
    · simp [tookTrap, hes, he, h] at ht
    · have hw : s.writesTl = true := by simp [State.writesTl, hp, hd]
      simp [tookTrap, hes, he, hw] at ht

/-- A trap is marked by tookTrap, whatever the exception, unless the instruction is a WRPR of TL that
may write it, and such an instruction takes none. -/
theorem tookTrap_takeTrap (e : Exc) (s : State) (hw : s.writesTl = false) :
    tookTrap s (takeTrap e s) = true := by
  by_cases h : s.tl.toNat < s.params.maxtl
  · have ht := (takeTrap_below e s h).1
    have : s.tl + 1 ≠ s.tl := by
      intro hc
      have := congrArg BitVec.toNat hc
      rw [BitVec.toNat_add] at this
      have := s.tl.isLt
      simp at *
    simp [tookTrap, ht, hw]
  · rw [takeTrap_max e s (by omega)]
    simp [tookTrap]

/-- A WRPR of TL in privileged mode takes no trap: it writes TL and goes on. -/
theorem step_writesTl (s t : State) (hw : s.writesTl = true) (h : step s = .next t) :
    tookTrap s t = false ∧ ∃ v, t = State.advance { s with tl := v } := by
  have he := (step_next s t h).1
  have key : ∃ v, t = State.advance { s with tl := v } := by
    unfold State.writesTl at hw
    obtain ⟨hp, hd⟩ := Bool.and_eq_true_iff.1 hw
    unfold step at h
    split at h
    · cases h
    · split at hd
      · rename_i rd rs1 op2 hdec
        have h7 : rd = 7 := of_decide_eq_true hd
        subst h7
        rw [hdec] at h
        change raiseFirst s _ (s.writePriv 7 _) = _ at h
        rw [raiseFirst_pass _ _ _ (by simp [hp])] at h
        change (if _ then _ else _) = _ at h
        split at h
        · cases h
        · exact ⟨_, next_inj h⟩
      · cases hd
  obtain ⟨v, rfl⟩ := key
  refine ⟨?_, v, rfl⟩
  have : (State.advance { s with tl := v }).errorState = false := he
  unfold tookTrap
  rw [this, hw]
  simp

/-! ### The run -/

/-- Everything one step of a run can do: go on, by a step that took no trap, or end. -/
theorem runStep_running (s t : State) (h : runStep s = .running t) :
    step s = .next t ∧ t.errorState = false ∧ tookTrap s t = false := by
  unfold runStep at h
  cases hs : step s with
  | next u =>
    rw [hs] at h
    dsimp only at h
    split at h
    · cases h
    · split at h
      · cases h
      · cases h
        exact ⟨rfl, Bool.eq_false_iff.2 ‹_›, Bool.eq_false_iff.2 ‹_›⟩
  | fault f => rw [hs] at h; cases f <;> cases h
  | refused r => rw [hs] at h; cases h

theorem runProgram_succ (k : Nat) (s : State) :
    runProgram (k + 1) s = (runStep s).andThen (runProgram k) := by rw [runProgram]

/-- A run that has not ended has taken every one of its steps. -/
theorem runProgram_running (k : Nat) (s t : State) (h : runProgram k s = .running t) :
    Host.Core.run ⟨State, Fault, Refusal, step, State.reset⟩ k s = .next t := by
  induction k generalizing s with
  | zero => cases h; rfl
  | succ k ih =>
    rw [runProgram_succ] at h
    cases hr : runStep s with
    | running u =>
      rw [hr] at h
      unfold Host.Core.run
      dsimp only
      rw [(runStep_running s u hr).1]
      exact ih u h
    | _ => rw [hr] at h; cases h

/-- A run that has ended stays ended: more steps answer the same. -/
theorem runProgram_ended (k j : Nat) (s : State) (h : ∀ u, runProgram k s ≠ .running u) :
    runProgram (k + j) s = runProgram k s := by
  induction k generalizing s with
  | zero => exact absurd rfl (h s)
  | succ k ih =>
    rw [Nat.succ_add, runProgram_succ, runProgram_succ]
    rw [runProgram_succ] at h
    cases hr : runStep s with
    | running u => rw [hr] at h; exact ih u h
    | _ => rfl

/-- The run ends at the first trap, with the trap type and the state the trap entry left; a trap at
MAXTL leaves it in error_state. -/
theorem runStep_trap (e : Exc) (s : State) (h : step s = .next (takeTrap e s))
    (hw : s.writesTl = false) :
    runStep s = if s.tl.toNat < s.params.maxtl then .firstTrap e.tt (takeTrap e s)
      else .errorState (takeTrap e s) := by
  have hs := (step_next s _ h).1
  unfold runStep
  rw [h]
  dsimp only
  by_cases hm : s.tl.toNat < s.params.maxtl
  · obtain ⟨-, he, ht⟩ := takeTrap_below e s hm
    rw [if_pos hm, he, hs, if_neg Bool.false_ne_true, if_pos (tookTrap_takeTrap e s hw), ht]
  · have he : (takeTrap e s).errorState = true := by rw [takeTrap_max e s (by omega)]
    rw [if_neg hm, if_pos he]

end Sys2Proof.Machine
end

