-- ==== Sys2Proof/Tests/Slice0.lean ====
section
/-! SUPPORT. Tests: the well-formedness check refuses ill-formed terms; every constructor's decoding of
a word written out from the spec's encoding; one-step tests with the expected results of
spec/95_test_vectors.md and of the rules named; a witness for every statement with hypotheses. -/

open Sys2Proof Sys2Proof.Machine Sys2Proof.Config

namespace Sys2Proof.Tests

/-! ### Well-formedness -/

theorem test_wf_rdasr_low : (Instr.rdasr16_31 8 15).wf = false := by decide
theorem test_wf_rdasr : (Instr.rdasr16_31 8 16).wf = true := by decide
theorem test_wf_wrasr_low : (Instr.wrasr16_31 15 8 (.imm 0)).wf = false := by decide
theorem test_wf_wrasr : (Instr.wrasr16_31 31 8 (.imm 0)).wf = true := by decide

/-! ### Decoding -/

/-- Bicc: op 00, a, cond, op2 010, disp22 (R123, R129, R134). -/
theorem test_decode_bicc :
    decode (0b00#2 ++ 0b0#1 ++ 0b1000#4 ++ 0b010#3 ++ 0b0110011111000000000111#22) =
      .instr (.ba false 0x19f007) ∧
    decode (0b00#2 ++ 0b0#1 ++ 0b0000#4 ++ 0b010#3 ++ 0b1011110100110001001001#22) =
      .instr (.bn false 0x2f4c49) ∧
    decode (0b00#2 ++ 0b0#1 ++ 0b1001#4 ++ 0b010#3 ++ 0b0001001010100010001011#22) =
      .instr (.bne false 0x4a88b) ∧
    decode (0b00#2 ++ 0b0#1 ++ 0b0001#4 ++ 0b010#3 ++ 0b0110100000010011001101#22) =
      .instr (.be false 0x1a04cd) ∧
    decode (0b00#2 ++ 0b0#1 ++ 0b1010#4 ++ 0b010#3 ++ 0b1011110110000100001111#22) =
      .instr (.bg false 0x2f610f) ∧
    decode (0b00#2 ++ 0b0#1 ++ 0b0010#4 ++ 0b010#3 ++ 0b0001001011110101010001#22) =
      .instr (.ble false 0x4bd51) ∧
    decode (0b00#2 ++ 0b0#1 ++ 0b1011#4 ++ 0b010#3 ++ 0b0110100001100110010011#22) =
      .instr (.bge false 0x1a1993) ∧
    decode (0b00#2 ++ 0b0#1 ++ 0b0011#4 ++ 0b010#3 ++ 0b1011110111010111010101#22) =
      .instr (.bl false 0x2f75d5) ∧
    decode (0b00#2 ++ 0b0#1 ++ 0b1100#4 ++ 0b010#3 ++ 0b0001001101001000010111#22) =
      .instr (.bgu false 0x4d217) ∧
    decode (0b00#2 ++ 0b0#1 ++ 0b0100#4 ++ 0b010#3 ++ 0b0110100010111001011001#22) =
      .instr (.bleu false 0x1a2e59) ∧
    decode (0b00#2 ++ 0b0#1 ++ 0b1101#4 ++ 0b010#3 ++ 0b1011111000101010011011#22) =
      .instr (.bcc false 0x2f8a9b) ∧
    decode (0b00#2 ++ 0b0#1 ++ 0b0101#4 ++ 0b010#3 ++ 0b0001001110011011011101#22) =
      .instr (.bcs false 0x4e6dd) ∧
    decode (0b00#2 ++ 0b0#1 ++ 0b1110#4 ++ 0b010#3 ++ 0b0110100100001100011111#22) =
      .instr (.bpos false 0x1a431f) ∧
    decode (0b00#2 ++ 0b0#1 ++ 0b0110#4 ++ 0b010#3 ++ 0b1011111001111101100001#22) =
      .instr (.bneg false 0x2f9f61) ∧
    decode (0b00#2 ++ 0b0#1 ++ 0b1111#4 ++ 0b010#3 ++ 0b0001001111101110100011#22) =
      .instr (.bvc false 0x4fba3) ∧
    decode (0b00#2 ++ 0b0#1 ++ 0b0111#4 ++ 0b010#3 ++ 0b0110100101011111100101#22) =
      .instr (.bvs false 0x1a57e5) := by decide

/-- BPcc: op 00, a, cond, op2 001, cc1 cc0, p, disp19 (R123, R129, R134). -/
theorem test_decode_bpcc :
    decode (0b00#2 ++ 0b0#1 ++ 0b1000#4 ++ 0b001#3 ++ 0b00#2 ++ 0b1#1 ++ 0b1100101001001111000#19) =
      .instr (.bpa false .icc true 0x65278) ∧
    decode (0b00#2 ++ 0b1#1 ++ 0b0000#4 ++ 0b001#3 ++ 0b10#2 ++ 0b1#1 ++ 0b1110011111010011101#19) =
      .instr (.bpn true .xcc true 0x73e9d) ∧
    decode (0b00#2 ++ 0b0#1 ++ 0b1001#4 ++ 0b001#3 ++ 0b00#2 ++ 0b1#1 ++ 0b0000010101011000010#19) =
      .instr (.bpne false .icc true 0x2ac2) ∧
    decode (0b00#2 ++ 0b1#1 ++ 0b0001#4 ++ 0b001#3 ++ 0b10#2 ++ 0b1#1 ++ 0b0010001011011100111#19) =
      .instr (.bpe true .xcc true 0x116e7) ∧
    decode (0b00#2 ++ 0b0#1 ++ 0b1010#4 ++ 0b001#3 ++ 0b00#2 ++ 0b1#1 ++ 0b0100000001100001100#19) =
      .instr (.bpg false .icc true 0x2030c) ∧
    decode (0b00#2 ++ 0b1#1 ++ 0b0010#4 ++ 0b001#3 ++ 0b10#2 ++ 0b1#1 ++ 0b0101110111100110001#19) =
      .instr (.bple true .xcc true 0x2ef31) ∧
    decode (0b00#2 ++ 0b0#1 ++ 0b1011#4 ++ 0b001#3 ++ 0b00#2 ++ 0b1#1 ++ 0b0111101101101010110#19) =
      .instr (.bpge false .icc true 0x3db56) ∧
    decode (0b00#2 ++ 0b1#1 ++ 0b0011#4 ++ 0b001#3 ++ 0b10#2 ++ 0b1#1 ++ 0b1001100011101111011#19) =
      .instr (.bpl true .xcc true 0x4c77b) ∧
    decode (0b00#2 ++ 0b0#1 ++ 0b1100#4 ++ 0b001#3 ++ 0b00#2 ++ 0b1#1 ++ 0b1011011001110100000#19) =
      .instr (.bpgu false .icc true 0x5b3a0) ∧
    decode (0b00#2 ++ 0b1#1 ++ 0b0100#4 ++ 0b001#3 ++ 0b10#2 ++ 0b1#1 ++ 0b1101001111111000101#19) =
      .instr (.bpleu true .xcc true 0x69fc5) ∧
    decode (0b00#2 ++ 0b0#1 ++ 0b1101#4 ++ 0b001#3 ++ 0b00#2 ++ 0b1#1 ++ 0b1111000101111101010#19) =
      .instr (.bpcc false .icc true 0x78bea) ∧
    decode (0b00#2 ++ 0b1#1 ++ 0b0101#4 ++ 0b001#3 ++ 0b10#2 ++ 0b1#1 ++ 0b0000111100000001111#19) =
      .instr (.bpcs true .xcc true 0x780f) ∧
    decode (0b00#2 ++ 0b0#1 ++ 0b1110#4 ++ 0b001#3 ++ 0b00#2 ++ 0b1#1 ++ 0b0010110010000110100#19) =
      .instr (.bppos false .icc true 0x16434) ∧
    decode (0b00#2 ++ 0b1#1 ++ 0b0110#4 ++ 0b001#3 ++ 0b10#2 ++ 0b1#1 ++ 0b0100101000001011001#19) =
      .instr (.bpneg true .xcc true 0x25059) ∧
    decode (0b00#2 ++ 0b0#1 ++ 0b1111#4 ++ 0b001#3 ++ 0b00#2 ++ 0b1#1 ++ 0b0110011110001111110#19) =
      .instr (.bpvc false .icc true 0x33c7e) ∧
    decode (0b00#2 ++ 0b1#1 ++ 0b0111#4 ++ 0b001#3 ++ 0b10#2 ++ 0b1#1 ++ 0b1000010100010100011#19) =
      .instr (.bpvs true .xcc true 0x428a3) := by decide

/-- BPr: op 00, a, 0, rcond, op2 011, d16hi, p, rs1, d16lo (R123, R127, R129, R134). -/
theorem test_decode_bpr :
    decode (0b00#2 ++ 0b0#1 ++ 0b0#1 ++ 0b001#3 ++ 0b011#3 ++ 0b11#2 ++ 0b1#1 ++ 0b11011#5 ++ 0b11010011001110#14) =
      .instr (.brz false true 27 0xf4ce) ∧
    decode (0b00#2 ++ 0b1#1 ++ 0b0#1 ++ 0b010#3 ++ 0b011#3 ++ 0b10#2 ++ 0b0#1 ++ 0b11111#5 ++ 0b10110010001101#14) =
      .instr (.brlez true false 31 0xac8d) ∧
    decode (0b00#2 ++ 0b0#1 ++ 0b0#1 ++ 0b011#3 ++ 0b011#3 ++ 0b01#2 ++ 0b0#1 ++ 0b00100#5 ++ 0b10010001001100#14) =
      .instr (.brlz false false 4 0x644c) ∧
    decode (0b00#2 ++ 0b1#1 ++ 0b0#1 ++ 0b101#3 ++ 0b011#3 ++ 0b00#2 ++ 0b1#1 ++ 0b01000#5 ++ 0b01110000001011#14) =
      .instr (.brnz true true 8 0x1c0b) ∧
    decode (0b00#2 ++ 0b0#1 ++ 0b0#1 ++ 0b110#3 ++ 0b011#3 ++ 0b11#2 ++ 0b0#1 ++ 0b01100#5 ++ 0b01001111001010#14) =
      .instr (.brgz false false 12 0xd3ca) ∧
    decode (0b00#2 ++ 0b1#1 ++ 0b0#1 ++ 0b111#3 ++ 0b011#3 ++ 0b10#2 ++ 0b0#1 ++ 0b10000#5 ++ 0b00101110001001#14) =
      .instr (.brgez true false 16 0x8b89) := by decide

/-- FBfcc: op 00, a, cond, op2 110, disp22 (R123, R129, R134). -/
theorem test_decode_fbfcc :
    decode (0b00#2 ++ 0b0#1 ++ 0b1000#4 ++ 0b110#3 ++ 0b1100001100001000110101#22) =
      .instr (.fba false 0x30c235) ∧
    decode (0b00#2 ++ 0b0#1 ++ 0b0000#4 ++ 0b110#3 ++ 0b0001100001111001110111#22) =
      .instr (.fbn false 0x61e77) ∧
    decode (0b00#2 ++ 0b0#1 ++ 0b0111#4 ++ 0b110#3 ++ 0b0110110111101010111001#22) =
      .instr (.fbu false 0x1b7ab9) ∧
    decode (0b00#2 ++ 0b0#1 ++ 0b1111#4 ++ 0b110#3 ++ 0b1100001101011011111011#22) =
      .instr (.fbo false 0x30d6fb) ∧
    decode (0b00#2 ++ 0b0#1 ++ 0b0110#4 ++ 0b110#3 ++ 0b0001100011001100111101#22) =
      .instr (.fbg false 0x6333d) ∧
    decode (0b00#2 ++ 0b0#1 ++ 0b1110#4 ++ 0b110#3 ++ 0b0110111000111101111111#22) =
      .instr (.fbule false 0x1b8f7f) ∧
    decode (0b00#2 ++ 0b0#1 ++ 0b0101#4 ++ 0b110#3 ++ 0b1100001110101111000001#22) =
      .instr (.fbug false 0x30ebc1) ∧
    decode (0b00#2 ++ 0b0#1 ++ 0b1101#4 ++ 0b110#3 ++ 0b0001100100100000000011#22) =
      .instr (.fble false 0x64803) ∧
    decode (0b00#2 ++ 0b0#1 ++ 0b0100#4 ++ 0b110#3 ++ 0b0110111010010001000101#22) =
      .instr (.fbl false 0x1ba445) ∧
    decode (0b00#2 ++ 0b0#1 ++ 0b1100#4 ++ 0b110#3 ++ 0b1100010000000010000111#22) =
      .instr (.fbuge false 0x310087) ∧
    decode (0b00#2 ++ 0b0#1 ++ 0b0011#4 ++ 0b110#3 ++ 0b0001100101110011001001#22) =
      .instr (.fbul false 0x65cc9) ∧
    decode (0b00#2 ++ 0b0#1 ++ 0b1011#4 ++ 0b110#3 ++ 0b0110111011100100001011#22) =
      .instr (.fbge false 0x1bb90b) ∧
    decode (0b00#2 ++ 0b0#1 ++ 0b0010#4 ++ 0b110#3 ++ 0b1100010001010101001101#22) =
      .instr (.fblg false 0x31154d) ∧
    decode (0b00#2 ++ 0b0#1 ++ 0b1010#4 ++ 0b110#3 ++ 0b0001100111000110001111#22) =
      .instr (.fbue false 0x6718f) ∧
    decode (0b00#2 ++ 0b0#1 ++ 0b0001#4 ++ 0b110#3 ++ 0b0110111100110111010001#22) =
      .instr (.fbne false 0x1bcdd1) ∧
    decode (0b00#2 ++ 0b0#1 ++ 0b1001#4 ++ 0b110#3 ++ 0b1100010010101000010011#22) =
      .instr (.fbe false 0x312a13) := by decide

/-- FBPfcc: op 00, a, cond, op2 101, cc1 cc0, p, disp19 (R123, R129, R134). -/
theorem test_decode_fbpfcc :
    decode (0b00#2 ++ 0b0#1 ++ 0b1000#4 ++ 0b101#3 ++ 0b00#2 ++ 0b0#1 ++ 0b0000010010100011010#19) =
      .instr (.fbpa false .fcc0 false 0x251a) ∧
    decode (0b00#2 ++ 0b1#1 ++ 0b0000#4 ++ 0b101#3 ++ 0b01#2 ++ 0b0#1 ++ 0b0010001000100111111#19) =
      .instr (.fbpn true .fcc1 false 0x1113f) ∧
    decode (0b00#2 ++ 0b0#1 ++ 0b0111#4 ++ 0b101#3 ++ 0b10#2 ++ 0b0#1 ++ 0b0011111110101100100#19) =
      .instr (.fbpu false .fcc2 false 0x1fd64) ∧
    decode (0b00#2 ++ 0b1#1 ++ 0b1111#4 ++ 0b101#3 ++ 0b11#2 ++ 0b0#1 ++ 0b0101110100110001001#19) =
      .instr (.fbpo true .fcc3 false 0x2e989) ∧
    decode (0b00#2 ++ 0b0#1 ++ 0b0110#4 ++ 0b101#3 ++ 0b00#2 ++ 0b0#1 ++ 0b0111101010110101110#19) =
      .instr (.fbpg false .fcc0 false 0x3d5ae) ∧
    decode (0b00#2 ++ 0b1#1 ++ 0b1110#4 ++ 0b101#3 ++ 0b01#2 ++ 0b0#1 ++ 0b1001100000111010011#19) =
      .instr (.fbpule true .fcc1 false 0x4c1d3) ∧
    decode (0b00#2 ++ 0b0#1 ++ 0b0101#4 ++ 0b101#3 ++ 0b10#2 ++ 0b0#1 ++ 0b1011010110111111000#19) =
      .instr (.fbpug false .fcc2 false 0x5adf8) ∧
    decode (0b00#2 ++ 0b1#1 ++ 0b1101#4 ++ 0b101#3 ++ 0b11#2 ++ 0b0#1 ++ 0b1101001101000011101#19) =
      .instr (.fbple true .fcc3 false 0x69a1d) ∧
    decode (0b00#2 ++ 0b0#1 ++ 0b0100#4 ++ 0b101#3 ++ 0b00#2 ++ 0b0#1 ++ 0b1111000011001000010#19) =
      .instr (.fbpl false .fcc0 false 0x78642) ∧
    decode (0b00#2 ++ 0b1#1 ++ 0b1100#4 ++ 0b101#3 ++ 0b01#2 ++ 0b0#1 ++ 0b0000111001001100111#19) =
      .instr (.fbpuge true .fcc1 false 0x7267) ∧
    decode (0b00#2 ++ 0b0#1 ++ 0b0011#4 ++ 0b101#3 ++ 0b10#2 ++ 0b0#1 ++ 0b0010101111010001100#19) =
      .instr (.fbpul false .fcc2 false 0x15e8c) ∧
    decode (0b00#2 ++ 0b1#1 ++ 0b1011#4 ++ 0b101#3 ++ 0b11#2 ++ 0b0#1 ++ 0b0100100101010110001#19) =
      .instr (.fbpge true .fcc3 false 0x24ab1) ∧
    decode (0b00#2 ++ 0b0#1 ++ 0b0010#4 ++ 0b101#3 ++ 0b00#2 ++ 0b0#1 ++ 0b0110011011011010110#19) =
      .instr (.fbplg false .fcc0 false 0x336d6) ∧
    decode (0b00#2 ++ 0b1#1 ++ 0b1010#4 ++ 0b101#3 ++ 0b01#2 ++ 0b0#1 ++ 0b1000010001011111011#19) =
      .instr (.fbpue true .fcc1 false 0x422fb) ∧
    decode (0b00#2 ++ 0b0#1 ++ 0b0001#4 ++ 0b101#3 ++ 0b10#2 ++ 0b0#1 ++ 0b1010000111100100000#19) =
      .instr (.fbpne false .fcc2 false 0x50f20) ∧
    decode (0b00#2 ++ 0b1#1 ++ 0b1001#4 ++ 0b101#3 ++ 0b11#2 ++ 0b0#1 ++ 0b1011111101101000101#19) =
      .instr (.fbpe true .fcc3 false 0x5fb45) := by decide

/-- NOP: op 00, five zeroes, op2 100, imm22 0 (R133). -/
theorem test_decode_nop :
    decode (0b00#2 ++ 0b00000#5 ++ 0b100#3 ++ 0b0000000000000000000000#22) =
      .instr (.nop) := by decide

/-- CASA, CASXA (forms c, d of R124) and SWAP (forms a, b) with op 11 and op3 of R132. -/
theorem test_decode_atomics :
    decode (0b11#2 ++ 0b01000#5 ++ 0b111100#6 ++ 0b01111#5 ++ 0b0#1 ++ 0b10000001#8 ++ 0b10110#5) =
      .instr (.casa 8 15 (.immAsi 0x81) 22) ∧
    decode (0b11#2 ++ 0b00101#5 ++ 0b111100#6 ++ 0b01100#5 ++ 0b1#1 ++ 0b00000000#8 ++ 0b10011#5) =
      .instr (.casa 5 12 .asiReg 19) ∧
    decode (0b11#2 ++ 0b11010#5 ++ 0b111110#6 ++ 0b00010#5 ++ 0b0#1 ++ 0b10000010#8 ++ 0b01001#5) =
      .instr (.casxa 26 2 (.immAsi 0x82) 9) ∧
    decode (0b11#2 ++ 0b10111#5 ++ 0b111110#6 ++ 0b11110#5 ++ 0b1#1 ++ 0b00000000#8 ++ 0b00110#5) =
      .instr (.casxa 23 30 .asiReg 6) ∧
    decode (0b11#2 ++ 0b01101#5 ++ 0b001111#6 ++ 0b10100#5 ++ 0b0#1 ++ 0b00000000#8 ++ 0b11011#5) =
      .instr (.swap 13 20 (.reg 27)) ∧
    decode (0b11#2 ++ 0b00011#5 ++ 0b001111#6 ++ 0b01010#5 ++ 0b1#1 ++ 0b1111001000011#13) =
      .instr (.swap 3 10 (.imm 0x1e43)) := by decide

/-- FMOVcc: op 10, rd, op3 110101, 0, cond, opf_cc, opf_low, rs2 (R125, R134, R137). -/
theorem test_decode_fmovcc :
    decode (0b10#2 ++ 0b11111#5 ++ 0b110101#6 ++ 0b0#1 ++ 0b0100#4 ++ 0b000#3 ++ 0b000001#6 ++ 0b00111#5) =
      .instr (.fmovscc_fcc0 .l 31 7) ∧
    decode (0b10#2 ++ 0b10101#5 ++ 0b110101#6 ++ 0b0#1 ++ 0b1010#4 ++ 0b001#3 ++ 0b000001#6 ++ 0b11100#5) =
      .instr (.fmovscc_fcc1 .ue 21 28) ∧
    decode (0b10#2 ++ 0b01011#5 ++ 0b110101#6 ++ 0b0#1 ++ 0b0111#4 ++ 0b010#3 ++ 0b000001#6 ++ 0b10010#5) =
      .instr (.fmovscc_fcc2 .u 11 18) ∧
    decode (0b10#2 ++ 0b00001#5 ++ 0b110101#6 ++ 0b0#1 ++ 0b1101#4 ++ 0b011#3 ++ 0b000001#6 ++ 0b01000#5) =
      .instr (.fmovscc_fcc3 .le 1 8) ∧
    decode (0b10#2 ++ 0b10110#5 ++ 0b110101#6 ++ 0b0#1 ++ 0b1110#4 ++ 0b100#3 ++ 0b000001#6 ++ 0b11101#5) =
      .instr (.fmovscc_icc .pos 22 29) ∧
    decode (0b10#2 ++ 0b01100#5 ++ 0b110101#6 ++ 0b0#1 ++ 0b0000#4 ++ 0b110#3 ++ 0b000001#6 ++ 0b10011#5) =
      .instr (.fmovscc_xcc .n 12 19) ∧
    decode (0b10#2 ++ 0b00010#5 ++ 0b110101#6 ++ 0b0#1 ++ 0b0101#4 ++ 0b000#3 ++ 0b000010#6 ++ 0b01001#5) =
      .instr (.fmovdcc_fcc0 .ug 2 9) ∧
    decode (0b10#2 ++ 0b10111#5 ++ 0b110101#6 ++ 0b0#1 ++ 0b1011#4 ++ 0b001#3 ++ 0b000010#6 ++ 0b11110#5) =
      .instr (.fmovdcc_fcc1 .ge 23 30) ∧
    decode (0b10#2 ++ 0b01101#5 ++ 0b110101#6 ++ 0b0#1 ++ 0b1000#4 ++ 0b010#3 ++ 0b000010#6 ++ 0b10100#5) =
      .instr (.fmovdcc_fcc2 .a 13 20) ∧
    decode (0b10#2 ++ 0b00011#5 ++ 0b110101#6 ++ 0b0#1 ++ 0b1110#4 ++ 0b011#3 ++ 0b000010#6 ++ 0b01010#5) =
      .instr (.fmovdcc_fcc3 .ule 3 10) ∧
    decode (0b10#2 ++ 0b11000#5 ++ 0b110101#6 ++ 0b0#1 ++ 0b1101#4 ++ 0b100#3 ++ 0b000010#6 ++ 0b11111#5) =
      .instr (.fmovdcc_icc .cc 24 31) ∧
    decode (0b10#2 ++ 0b01110#5 ++ 0b110101#6 ++ 0b0#1 ++ 0b0111#4 ++ 0b110#3 ++ 0b000010#6 ++ 0b10101#5) =
      .instr (.fmovdcc_xcc .vs 14 21) ∧
    decode (0b10#2 ++ 0b00100#5 ++ 0b110101#6 ++ 0b0#1 ++ 0b0110#4 ++ 0b000#3 ++ 0b000011#6 ++ 0b01011#5) =
      .instr (.fmovqcc_fcc0 .g 4 11) ∧
    decode (0b10#2 ++ 0b11001#5 ++ 0b110101#6 ++ 0b0#1 ++ 0b1100#4 ++ 0b001#3 ++ 0b000011#6 ++ 0b00001#5) =
      .instr (.fmovqcc_fcc1 .uge 25 1) ∧
    decode (0b10#2 ++ 0b01111#5 ++ 0b110101#6 ++ 0b0#1 ++ 0b0001#4 ++ 0b010#3 ++ 0b000011#6 ++ 0b10110#5) =
      .instr (.fmovqcc_fcc2 .ne 15 22) ∧
    decode (0b10#2 ++ 0b00101#5 ++ 0b110101#6 ++ 0b0#1 ++ 0b1111#4 ++ 0b011#3 ++ 0b000011#6 ++ 0b01100#5) =
      .instr (.fmovqcc_fcc3 .o 5 12) ∧
    decode (0b10#2 ++ 0b11010#5 ++ 0b110101#6 ++ 0b0#1 ++ 0b1100#4 ++ 0b100#3 ++ 0b000011#6 ++ 0b00010#5) =
      .instr (.fmovqcc_icc .gu 26 2) ∧
    decode (0b10#2 ++ 0b10000#5 ++ 0b110101#6 ++ 0b0#1 ++ 0b0110#4 ++ 0b110#3 ++ 0b000011#6 ++ 0b10111#5) =
      .instr (.fmovqcc_xcc .neg 16 23) := by decide

/-- FMOVr: op 10, rd, op3 110101, rs1, 0, rcond, opf_low, rs2 (form i of R124, R137). -/
theorem test_decode_fmovr :
    decode (0b10#2 ++ 0b11110#5 ++ 0b110101#6 ++ 0b00110#5 ++ 0b0#1 ++ 0b001#3 ++ 0b00101#5 ++ 0b01101#5) =
      .instr (.fmovrsz 30 6 13) ∧
    decode (0b10#2 ++ 0b10100#5 ++ 0b110101#6 ++ 0b11011#5 ++ 0b0#1 ++ 0b010#3 ++ 0b00101#5 ++ 0b00011#5) =
      .instr (.fmovrslez 20 27 3) ∧
    decode (0b10#2 ++ 0b01010#5 ++ 0b110101#6 ++ 0b10001#5 ++ 0b0#1 ++ 0b011#3 ++ 0b00101#5 ++ 0b11000#5) =
      .instr (.fmovrslz 10 17 24) ∧
    decode (0b10#2 ++ 0b11111#5 ++ 0b110101#6 ++ 0b00111#5 ++ 0b0#1 ++ 0b101#3 ++ 0b00101#5 ++ 0b01110#5) =
      .instr (.fmovrsnz 31 7 14) ∧
    decode (0b10#2 ++ 0b10101#5 ++ 0b110101#6 ++ 0b11100#5 ++ 0b0#1 ++ 0b110#3 ++ 0b00101#5 ++ 0b00100#5) =
      .instr (.fmovrsgz 21 28 4) ∧
    decode (0b10#2 ++ 0b01011#5 ++ 0b110101#6 ++ 0b10010#5 ++ 0b0#1 ++ 0b111#3 ++ 0b00101#5 ++ 0b11001#5) =
      .instr (.fmovrsgez 11 18 25) ∧
    decode (0b10#2 ++ 0b00001#5 ++ 0b110101#6 ++ 0b01000#5 ++ 0b0#1 ++ 0b001#3 ++ 0b00110#5 ++ 0b01111#5) =
      .instr (.fmovrdz 1 8 15) ∧
    decode (0b10#2 ++ 0b10110#5 ++ 0b110101#6 ++ 0b11101#5 ++ 0b0#1 ++ 0b010#3 ++ 0b00110#5 ++ 0b00101#5) =
      .instr (.fmovrdlez 22 29 5) ∧
    decode (0b10#2 ++ 0b01100#5 ++ 0b110101#6 ++ 0b10011#5 ++ 0b0#1 ++ 0b011#3 ++ 0b00110#5 ++ 0b11010#5) =
      .instr (.fmovrdlz 12 19 26) ∧
    decode (0b10#2 ++ 0b00010#5 ++ 0b110101#6 ++ 0b01001#5 ++ 0b0#1 ++ 0b101#3 ++ 0b00110#5 ++ 0b10000#5) =
      .instr (.fmovrdnz 2 9 16) ∧
    decode (0b10#2 ++ 0b10111#5 ++ 0b110101#6 ++ 0b11110#5 ++ 0b0#1 ++ 0b110#3 ++ 0b00110#5 ++ 0b00110#5) =
      .instr (.fmovrdgz 23 30 6) ∧
    decode (0b10#2 ++ 0b01101#5 ++ 0b110101#6 ++ 0b10100#5 ++ 0b0#1 ++ 0b111#3 ++ 0b00110#5 ++ 0b11011#5) =
      .instr (.fmovrdgez 13 20 27) ∧
    decode (0b10#2 ++ 0b00011#5 ++ 0b110101#6 ++ 0b01010#5 ++ 0b0#1 ++ 0b001#3 ++ 0b00111#5 ++ 0b10001#5) =
      .instr (.fmovrqz 3 10 17) ∧
    decode (0b10#2 ++ 0b11000#5 ++ 0b110101#6 ++ 0b11111#5 ++ 0b0#1 ++ 0b010#3 ++ 0b00111#5 ++ 0b00111#5) =
      .instr (.fmovrqlez 24 31 7) ∧
    decode (0b10#2 ++ 0b01110#5 ++ 0b110101#6 ++ 0b10101#5 ++ 0b0#1 ++ 0b011#3 ++ 0b00111#5 ++ 0b11100#5) =
      .instr (.fmovrqlz 14 21 28) ∧
    decode (0b10#2 ++ 0b00100#5 ++ 0b110101#6 ++ 0b01011#5 ++ 0b0#1 ++ 0b101#3 ++ 0b00111#5 ++ 0b10010#5) =
      .instr (.fmovrqnz 4 11 18) ∧
    decode (0b10#2 ++ 0b11001#5 ++ 0b110101#6 ++ 0b00001#5 ++ 0b0#1 ++ 0b110#3 ++ 0b00111#5 ++ 0b01000#5) =
      .instr (.fmovrqgz 25 1 8) ∧
    decode (0b10#2 ++ 0b01111#5 ++ 0b110101#6 ++ 0b10110#5 ++ 0b0#1 ++ 0b111#3 ++ 0b00111#5 ++ 0b11101#5) =
      .instr (.fmovrqgez 15 22 29) := by decide

/-- MOVr: op 10, rd, op3 101111, rs1, i, rcond, rs2 or simm10 (forms e, f of R124). -/
theorem test_decode_movr :
    decode (0b10#2 ++ 0b00101#5 ++ 0b101111#6 ++ 0b01100#5 ++ 0b1#1 ++ 0b001#3 ++ 0b1000110101#10) =
      .instr (.movrz 5 12 (.imm 0x235)) ∧
    decode (0b10#2 ++ 0b00010#5 ++ 0b101111#6 ++ 0b01001#5 ++ 0b0#1 ++ 0b010#3 ++ 0b00000#5 ++ 0b10000#5) =
      .instr (.movrlez 2 9 (.reg 16)) ∧
    decode (0b10#2 ++ 0b11110#5 ++ 0b101111#6 ++ 0b00110#5 ++ 0b1#1 ++ 0b011#3 ++ 0b1001001101#10) =
      .instr (.movrlz 30 6 (.imm 0x24d)) ∧
    decode (0b10#2 ++ 0b11011#5 ++ 0b101111#6 ++ 0b00011#5 ++ 0b0#1 ++ 0b101#3 ++ 0b00000#5 ++ 0b01010#5) =
      .instr (.movrnz 27 3 (.reg 10)) ∧
    decode (0b10#2 ++ 0b11000#5 ++ 0b101111#6 ++ 0b11111#5 ++ 0b1#1 ++ 0b110#3 ++ 0b1001100101#10) =
      .instr (.movrgz 24 31 (.imm 0x265)) ∧
    decode (0b10#2 ++ 0b10101#5 ++ 0b101111#6 ++ 0b11100#5 ++ 0b0#1 ++ 0b111#3 ++ 0b00000#5 ++ 0b00100#5) =
      .instr (.movrgez 21 28 (.reg 4)) := by decide

/-- Loads: op 11 and op3 of R132; LDFSR has rd 0, LDXFSR rd 1 (R137). -/
theorem test_decode_loads :
    decode (0b11#2 ++ 0b10010#5 ++ 0b100000#6 ++ 0b11001#5 ++ 0b0#1 ++ 0b00000000#8 ++ 0b00001#5) =
      .instr (.ldf 18 25 (.reg 1)) ∧
    decode (0b11#2 ++ 0b01000#5 ++ 0b100000#6 ++ 0b01111#5 ++ 0b1#1 ++ 0b1011110010101#13) =
      .instr (.ldf 8 15 (.imm 0x1795)) ∧
    decode (0b11#2 ++ 0b11101#5 ++ 0b100011#6 ++ 0b00101#5 ++ 0b0#1 ++ 0b00000000#8 ++ 0b01100#5) =
      .instr (.lddf 29 5 (.reg 12)) ∧
    decode (0b11#2 ++ 0b10011#5 ++ 0b100011#6 ++ 0b11010#5 ++ 0b1#1 ++ 0b1101000010011#13) =
      .instr (.lddf 19 26 (.imm 0x1a13)) ∧
    decode (0b11#2 ++ 0b01001#5 ++ 0b100010#6 ++ 0b10000#5 ++ 0b0#1 ++ 0b00000000#8 ++ 0b10111#5) =
      .instr (.ldqf 9 16 (.reg 23)) ∧
    decode (0b11#2 ++ 0b11110#5 ++ 0b100010#6 ++ 0b00110#5 ++ 0b1#1 ++ 0b1110010010001#13) =
      .instr (.ldqf 30 6 (.imm 0x1c91)) ∧
    decode (0b11#2 ++ 0b00000#5 ++ 0b100001#6 ++ 0b10100#5 ++ 0b0#1 ++ 0b00000000#8 ++ 0b11011#5) =
      .instr (.ldfsr 20 (.reg 27)) ∧
    decode (0b11#2 ++ 0b00000#5 ++ 0b100001#6 ++ 0b00011#5 ++ 0b1#1 ++ 0b0100011100101#13) =
      .instr (.ldfsr 3 (.imm 0x8e5)) ∧
    decode (0b11#2 ++ 0b00001#5 ++ 0b100001#6 ++ 0b10001#5 ++ 0b0#1 ++ 0b00000000#8 ++ 0b11000#5) =
      .instr (.ldxfsr 17 (.reg 24)) ∧
    decode (0b11#2 ++ 0b00001#5 ++ 0b100001#6 ++ 0b11111#5 ++ 0b1#1 ++ 0b1010100111001#13) =
      .instr (.ldxfsr 31 (.imm 0x1539)) ∧
    decode (0b11#2 ++ 0b01110#5 ++ 0b000011#6 ++ 0b10101#5 ++ 0b0#1 ++ 0b00000000#8 ++ 0b11100#5) =
      .instr (.ldd 14 21 (.reg 28)) ∧
    decode (0b11#2 ++ 0b00100#5 ++ 0b000011#6 ++ 0b01011#5 ++ 0b1#1 ++ 0b1011110110111#13) =
      .instr (.ldd 4 11 (.imm 0x17b7)) ∧
    decode (0b11#2 ++ 0b11000#5 ++ 0b010011#6 ++ 0b00001#5 ++ 0b0#1 ++ 0b10001001#8 ++ 0b01000#5) =
      .instr (.ldda 24 1 (.immAsi 0x89 8)) ∧
    decode (0b11#2 ++ 0b10110#5 ++ 0b010011#6 ++ 0b11101#5 ++ 0b1#1 ++ 0b1010101001010#13) =
      .instr (.ldda 22 29 (.asiReg 0x154a)) := by decide

/-- Stores: op 11 and op3 of R132 (forms a, b, c of R124). -/
theorem test_decode_stores :
    decode (0b11#2 ++ 0b01100#5 ++ 0b000101#6 ++ 0b10011#5 ++ 0b0#1 ++ 0b00000000#8 ++ 0b11010#5) =
      .instr (.stb 12 19 (.reg 26)) ∧
    decode (0b11#2 ++ 0b00010#5 ++ 0b000101#6 ++ 0b01001#5 ++ 0b1#1 ++ 0b1011111001000#13) =
      .instr (.stb 2 9 (.imm 0x17c8)) ∧
    decode (0b11#2 ++ 0b10111#5 ++ 0b000110#6 ++ 0b11110#5 ++ 0b0#1 ++ 0b00000000#8 ++ 0b00110#5) =
      .instr (.sth 23 30 (.reg 6)) ∧
    decode (0b11#2 ++ 0b01101#5 ++ 0b000110#6 ++ 0b10100#5 ++ 0b1#1 ++ 0b1101001000110#13) =
      .instr (.sth 13 20 (.imm 0x1a46)) ∧
    decode (0b11#2 ++ 0b00011#5 ++ 0b000100#6 ++ 0b01010#5 ++ 0b0#1 ++ 0b00000000#8 ++ 0b10001#5) =
      .instr (.stw 3 10 (.reg 17)) ∧
    decode (0b11#2 ++ 0b11000#5 ++ 0b000100#6 ++ 0b11111#5 ++ 0b1#1 ++ 0b1110011000100#13) =
      .instr (.stw 24 31 (.imm 0x1cc4)) ∧
    decode (0b11#2 ++ 0b01110#5 ++ 0b001110#6 ++ 0b10101#5 ++ 0b0#1 ++ 0b00000000#8 ++ 0b11100#5) =
      .instr (.stx 14 21 (.reg 28)) ∧
    decode (0b11#2 ++ 0b00100#5 ++ 0b001110#6 ++ 0b01011#5 ++ 0b1#1 ++ 0b1111101000010#13) =
      .instr (.stx 4 11 (.imm 0x1f42)) ∧
    decode (0b11#2 ++ 0b11000#5 ++ 0b000111#6 ++ 0b00001#5 ++ 0b0#1 ++ 0b00000000#8 ++ 0b01000#5) =
      .instr (.std 24 1 (.reg 8)) ∧
    decode (0b11#2 ++ 0b01110#5 ++ 0b000111#6 ++ 0b10110#5 ++ 0b1#1 ++ 0b0000111000000#13) =
      .instr (.std 14 22 (.imm 0x1c0)) ∧
    decode (0b11#2 ++ 0b00101#5 ++ 0b010101#6 ++ 0b01100#5 ++ 0b0#1 ++ 0b10001100#8 ++ 0b10011#5) =
      .instr (.stba 5 12 (.immAsi 0x8c 19)) ∧
    decode (0b11#2 ++ 0b00010#5 ++ 0b010101#6 ++ 0b01001#5 ++ 0b1#1 ++ 0b1111101010011#13) =
      .instr (.stba 2 9 (.asiReg 0x1f53)) ∧
    decode (0b11#2 ++ 0b10111#5 ++ 0b010110#6 ++ 0b11110#5 ++ 0b0#1 ++ 0b10001101#8 ++ 0b00110#5) =
      .instr (.stha 23 30 (.immAsi 0x8d 6)) ∧
    decode (0b11#2 ++ 0b10100#5 ++ 0b010110#6 ++ 0b11011#5 ++ 0b1#1 ++ 0b1110011100110#13) =
      .instr (.stha 20 27 (.asiReg 0x1ce6)) ∧
    decode (0b11#2 ++ 0b01010#5 ++ 0b010100#6 ++ 0b10001#5 ++ 0b0#1 ++ 0b10001110#8 ++ 0b11000#5) =
      .instr (.stwa 10 17 (.immAsi 0x8e 24)) ∧
    decode (0b11#2 ++ 0b00111#5 ++ 0b010100#6 ++ 0b01110#5 ++ 0b1#1 ++ 0b1101001111001#13) =
      .instr (.stwa 7 14 (.asiReg 0x1a79)) ∧
    decode (0b11#2 ++ 0b11100#5 ++ 0b011110#6 ++ 0b00100#5 ++ 0b0#1 ++ 0b10001111#8 ++ 0b01011#5) =
      .instr (.stxa 28 4 (.immAsi 0x8f 11)) ∧
    decode (0b11#2 ++ 0b11001#5 ++ 0b011110#6 ++ 0b00001#5 ++ 0b1#1 ++ 0b1100000001100#13) =
      .instr (.stxa 25 1 (.asiReg 0x180c)) ∧
    decode (0b11#2 ++ 0b01110#5 ++ 0b010111#6 ++ 0b10110#5 ++ 0b0#1 ++ 0b10000000#8 ++ 0b11101#5) =
      .instr (.stda 14 22 (.immAsi 0x80 29)) ∧
    decode (0b11#2 ++ 0b01100#5 ++ 0b010111#6 ++ 0b10011#5 ++ 0b1#1 ++ 0b1010110011111#13) =
      .instr (.stda 12 19 (.asiReg 0x159f)) := by decide

/-- RDASR, WRASR, SIR, RDPR, WRPR: op 10 and op3 of R130 (forms h, a, b of R124; R137). -/
theorem test_decode_state_registers :
    decode (0b10#2 ++ 0b00010#5 ++ 0b101000#6 ++ 0b00000#5 ++ 0b00000000000000#14) =
      .instr (.rdy 2) ∧
    decode (0b10#2 ++ 0b01001#5 ++ 0b101000#6 ++ 0b00010#5 ++ 0b00000000000000#14) =
      .instr (.rdccr 9) ∧
    decode (0b10#2 ++ 0b10000#5 ++ 0b101000#6 ++ 0b00011#5 ++ 0b00000000000000#14) =
      .instr (.rdasi 16) ∧
    decode (0b10#2 ++ 0b10111#5 ++ 0b101000#6 ++ 0b00100#5 ++ 0b00000000000000#14) =
      .instr (.rdtick 23) ∧
    decode (0b10#2 ++ 0b11110#5 ++ 0b101000#6 ++ 0b00101#5 ++ 0b00000000000000#14) =
      .instr (.rdpc 30) ∧
    decode (0b10#2 ++ 0b00110#5 ++ 0b101000#6 ++ 0b00110#5 ++ 0b00000000000000#14) =
      .instr (.rdfprs 6) ∧
    decode (0b10#2 ++ 0b01101#5 ++ 0b101000#6 ++ 0b10000#5 ++ 0b00000000000000#14) =
      .instr (.rdasr16_31 13 16) ∧
    decode (0b10#2 ++ 0b10100#5 ++ 0b101000#6 ++ 0b11111#5 ++ 0b00000000000000#14) =
      .instr (.rdasr16_31 20 31) ∧
    decode (0b10#2 ++ 0b00000#5 ++ 0b110000#6 ++ 0b11011#5 ++ 0b0#1 ++ 0b00000000#8 ++ 0b00011#5) =
      .instr (.wry 27 (.reg 3)) ∧
    decode (0b10#2 ++ 0b00000#5 ++ 0b110000#6 ++ 0b01010#5 ++ 0b1#1 ++ 0b1101010011011#13) =
      .instr (.wry 10 (.imm 0x1a9b)) ∧
    decode (0b10#2 ++ 0b00010#5 ++ 0b110000#6 ++ 0b11000#5 ++ 0b0#1 ++ 0b00000000#8 ++ 0b11111#5) =
      .instr (.wrccr 24 (.reg 31)) ∧
    decode (0b10#2 ++ 0b00010#5 ++ 0b110000#6 ++ 0b00111#5 ++ 0b1#1 ++ 0b0011011101111#13) =
      .instr (.wrccr 7 (.imm 0x6ef)) ∧
    decode (0b10#2 ++ 0b00011#5 ++ 0b110000#6 ++ 0b10101#5 ++ 0b0#1 ++ 0b00000000#8 ++ 0b11100#5) =
      .instr (.wrasi 21 (.reg 28)) ∧
    decode (0b10#2 ++ 0b00011#5 ++ 0b110000#6 ++ 0b00100#5 ++ 0b1#1 ++ 0b1001101000011#13) =
      .instr (.wrasi 4 (.imm 0x1343)) ∧
    decode (0b10#2 ++ 0b00110#5 ++ 0b110000#6 ++ 0b10010#5 ++ 0b0#1 ++ 0b00000000#8 ++ 0b11001#5) =
      .instr (.wrfprs 18 (.reg 25)) ∧
    decode (0b10#2 ++ 0b00110#5 ++ 0b110000#6 ++ 0b00001#5 ++ 0b1#1 ++ 0b1111110010111#13) =
      .instr (.wrfprs 1 (.imm 0x1f97)) ∧
    decode (0b10#2 ++ 0b10000#5 ++ 0b110000#6 ++ 0b01111#5 ++ 0b0#1 ++ 0b00000000#8 ++ 0b10110#5) =
      .instr (.wrasr16_31 16 15 (.reg 22)) ∧
    decode (0b10#2 ++ 0b11111#5 ++ 0b110000#6 ++ 0b11010#5 ++ 0b1#1 ++ 0b1100000111111#13) =
      .instr (.wrasr16_31 31 26 (.imm 0x183f)) ∧
    decode (0b10#2 ++ 0b01111#5 ++ 0b110000#6 ++ 0b00000#5 ++ 0b1#1 ++ 0b1101010111100#13) =
      .instr (.sir 0x1abc) ∧
    decode (0b10#2 ++ 0b01001#5 ++ 0b101010#6 ++ 0b11111#5 ++ 0b00000000000000#14) =
      .instr (.rdpr 9 31) ∧
    decode (0b10#2 ++ 0b01110#5 ++ 0b110010#6 ++ 0b10000#5 ++ 0b0#1 ++ 0b00000000#8 ++ 0b10111#5) =
      .instr (.wrpr 14 16 (.reg 23)) ∧
    decode (0b10#2 ++ 0b00110#5 ++ 0b110010#6 ++ 0b11011#5 ++ 0b1#1 ++ 0b0101111111100#13) =
      .instr (.wrpr 6 27 (.imm 0xbfc)) := by decide

/-- SAVE, RESTORE (forms a, b of R124), SAVED with fcn 0 and RESTORED with fcn 1 (form g). -/
theorem test_decode_windows :
    decode (0b10#2 ++ 0b01010#5 ++ 0b111100#6 ++ 0b10001#5 ++ 0b0#1 ++ 0b00000000#8 ++ 0b11000#5) =
      .instr (.save 10 17 (.reg 24)) ∧
    decode (0b10#2 ++ 0b11111#5 ++ 0b111100#6 ++ 0b00111#5 ++ 0b1#1 ++ 0b0111001111010#13) =
      .instr (.save 31 7 (.imm 0xe7a)) ∧
    decode (0b10#2 ++ 0b10101#5 ++ 0b111101#6 ++ 0b11100#5 ++ 0b0#1 ++ 0b00000000#8 ++ 0b00100#5) =
      .instr (.restore 21 28 (.reg 4)) ∧
    decode (0b10#2 ++ 0b01011#5 ++ 0b111101#6 ++ 0b10010#5 ++ 0b1#1 ++ 0b1000011111000#13) =
      .instr (.restore 11 18 (.imm 0x10f8)) ∧
    decode (0b10#2 ++ 0b00000#5 ++ 0b110001#6 ++ 0b0000000000000000000#19) =
      .instr (.saved) ∧
    decode (0b10#2 ++ 0b00001#5 ++ 0b110001#6 ++ 0b0000000000000000000#19) =
      .instr (.restored) := by decide

/-- TADDcc op3 10 0000, TADDccTV op3 10 0010 (R131). -/
theorem test_decode_tagged :
    decode (0b10#2 ++ 0b00001#5 ++ 0b100000#6 ++ 0b01000#5 ++ 0b0#1 ++ 0b00000000#8 ++ 0b01111#5) =
      .instr (.taddcc 1 8 (.reg 15)) ∧
    decode (0b10#2 ++ 0b10110#5 ++ 0b100000#6 ++ 0b11101#5 ++ 0b1#1 ++ 0b1001101110110#13) =
      .instr (.taddcc 22 29 (.imm 0x1376)) ∧
    decode (0b10#2 ++ 0b01100#5 ++ 0b100010#6 ++ 0b10011#5 ++ 0b0#1 ++ 0b00000000#8 ++ 0b11010#5) =
      .instr (.taddcctv 12 19 (.reg 26)) ∧
    decode (0b10#2 ++ 0b00010#5 ++ 0b100010#6 ++ 0b01001#5 ++ 0b1#1 ++ 0b1010111110100#13) =
      .instr (.taddcctv 2 9 (.imm 0x15f4)) := by decide

/-! ### Single steps

The expected results are those of spec/95_test_vectors.md, or of the rule named. -/

/-- The launch state of the vectors: privileged, TL = 0, floating point enabled, TBA = 0x10000. -/
def base : State := { State.reset with
  pc := 0x1000
  npc := 0x1004
  tl := 0
  pstate := 0x014
  fprs := 4
  tba := 0x10000 }

/-- The same in nonprivileged mode with interrupts enabled. -/
def user : State := { base with pstate := 0x012 }

/-- Registers of the current window set. -/
def regs (s : State) (l : List (Nat × Word)) : State :=
  l.foldl (fun s p => s.writeReg (BitVec.ofNat 5 p.1) p.2) s

/-- Bytes placed in memory. -/
def bytes (s : State) (a : Nat) (l : List Byte) : State := { s with mem := writeBytes s.mem a l }

/-- The next state of a step at a word meets the test. -/
def after (w : Nat) (s : State) (test : State → Bool) : Bool :=
  match step (s.withFetchWord 32 w) with
  | .next t => test t
  | _ => false

/-- The refusal a step at a word answers. -/
def refusal (w : Nat) (s : State) : Option Refusal :=
  match step (s.withFetchWord 32 w) with
  | .refused r => some r
  | _ => none

/-- The fault a step at a word answers. -/
def faultOf (w : Nat) (s : State) : Option Fault :=
  match step (s.withFetchWord 32 w) with
  | .fault r => some r
  | _ => none

/-- The step at a word takes a trap of the type to level 1, from PC 0x1000. -/
def trapsWith (w : Nat) (s : State) (tt : BitVec 9) : Bool :=
  after w s fun t => decide (t.tl = 1 ∧ (t.trapRegs 1).tt = tt ∧ (t.trapRegs 1).tpc = 0x1000)

/-- Both program counters. -/
def pcs (t : State) : Word × Word := (t.pc, t.npc)

/-- Memory at 0x8000 of the load vectors. -/
def loads : State := bytes (regs base [(8, 0x8000), (16, 0x8000)]) 0x8000
  [0x11, 0x22, 0x33, 0x44, 0x55, 0x66, 0x77, 0x88, 0x99, 0xAA, 0xBB, 0xCC, 0xDD, 0xEE, 0xFF, 0x00]

/-- Registers of the store vectors. -/
def stores : State := regs base
  [(8, 0x1000), (9, 0x10), (10, 0x1122334455667788), (11, 0x99AABBCCDDEEFF00)]

/-- PSTATE.CLE set. -/
def little (s : State) : State := { s with pstate := s.pstate ||| 0x200 }

/-- Every condition of a family taken or not at once: the branches with disp 4 at 0x1000 that are taken
in s, by their cond codes. -/
def takenConds (s : State) (op2 : Nat) (sel : Nat) : List Nat :=
  (List.range 16).filter fun c =>
    after (c * 2 ^ 25 + op2 * 2 ^ 22 + sel + 4) s fun t => decide (pcs t = (0x1004, 0x1010))

-- Branches (vectors 2.1; R134: the codes true for the condition codes given)
theorem test_bne_annul_taken :
    after 0x32800004 base (fun t => pcs t = (0x1004, 0x1010)) = true := by decide
theorem test_bne_annul_not_taken :
    after 0x32800004 { base with ccr := 0x04 } (fun t => pcs t = (0x1008, 0x100C)) = true := by decide
theorem test_ba_annul : after 0x30800002 base (fun t => pcs t = (0x1008, 0x100C)) = true := by decide
theorem test_bn_annul : after 0x20800002 base (fun t => pcs t = (0x1008, 0x100C)) = true := by decide
theorem test_ba_back : after 0x10BFFFFF base (fun t => pcs t = (0x1004, 0x0FFC)) = true := by decide
theorem test_bpne_xcc : after 0x126FFFFD { base with pc := 0x2010, npc := 0x2014 }
    (fun t => pcs t = (0x2014, 0x2004)) = true := by decide
theorem test_bpne_xcc_looks_at_xcc :
    after 0x126FFFFD { base with pc := 0x2010, npc := 0x2014, ccr := 0x40 }
      (fun t => pcs t = (0x2014, 0x2018)) = true := by decide
theorem test_brnz : after 0x0AFA3FFE (regs { base with pc := 0x3008, npc := 0x300C } [(8, 5)])
    (fun t => pcs t = (0x300C, 0x3000)) = true := by decide
theorem test_brnz_zero : after 0x0AFA3FFE { base with pc := 0x3008, npc := 0x300C }
    (fun t => pcs t = (0x300C, 0x3010)) = true := by decide
theorem test_brz_far : after 0x22C85FFF { base with pc := 0x8000, npc := 0x8004 }
    (fun t => pcs t = (0x8004, 0xFFFC)) = true := by decide
theorem test_brgez_back : after 0x0EEFC000 { base with pc := 0x40000, npc := 0x40004 }
    (fun t => pcs t = (0x40004, 0x20000)) = true := by decide
theorem test_bicc_conds_z_c :
    takenConds { base with ccr := 0x05 } 2 0 = [1, 2, 4, 5, 8, 11, 14, 15] := by decide
theorem test_bicc_conds_n : takenConds { base with ccr := 0x08 } 2 0 = [2, 3, 6, 8, 9, 12, 13, 15] := by
  decide
theorem test_bpcc_conds_v_xcc :
    takenConds { base with ccr := 0x2F } 1 0x200000 = [2, 3, 7, 8, 9, 12, 13, 14] := by decide
theorem test_fbfcc_conds_equal : takenConds base 6 0 = [8, 9, 10, 11, 12, 13, 14, 15] := by decide
theorem test_fbfcc_conds_less :
    takenConds { base with fsr := 0x400 } 6 0 = [1, 2, 3, 4, 8, 13, 14, 15] := by decide
theorem test_fbpfcc_conds_greater_fcc1 :
    takenConds { base with fsr := 0x200000000 } 5 0x100000 = [1, 2, 5, 6, 8, 11, 12, 15] := by decide
theorem test_fbpfcc_conds_unordered_fcc3 :
    takenConds { base with fsr := 0x3000000000 } 5 0x300000 = [1, 3, 5, 7, 8, 10, 12, 14] := by decide
theorem test_fbule_not_taken : after 0x3D680004 { base with fsr := 0x800000000 }
    (fun t => pcs t = (0x1008, 0x100C)) = true := by decide
theorem test_fbne_disabled : trapsWith 0x03800002 { base with fprs := 0 } 0x020 = true := by decide
theorem test_branch_in_delay_slot :
    (match step ({ bytes base 0x1004 [0x30, 0x80, 0x00, 0x02] with
        launch := { base.launch with text := [⟨0x1000, 8⟩] } }.withFetchWord 32 0x10800004) with
      | .refused r => decide (r = .branchInDelaySlot)
      | _ => false) = true := by decide

-- Atomics (vectors 2.2)
theorem test_casa_equal : after 0xD5E21009
    (bytes (regs base [(8, 0x8000), (9, 0xFFFFFFFF00000007), (10, 9)]) 0x8000 [0, 0, 0, 7])
    (fun t => t.readReg 10 == 7 && readBytes t.mem 0x8000 4 == [0, 0, 0, 9]) = true := by decide
theorem test_casa_differs : after 0xD5E21009
    (bytes (regs base [(8, 0x8000), (9, 7), (10, 0x100000009)]) 0x8000 [0, 0, 0, 8])
    (fun t => t.readReg 10 == 8 && readBytes t.mem 0x8000 4 == [0, 0, 0, 8]) = true := by decide
theorem test_casa_asi_register : after 0xD5E22009
    (bytes { regs base [(8, 0x8000), (9, 7), (10, 9)] with asi := 0x80 } 0x8000 [0, 0, 0, 7])
    (fun t => t.readReg 10 == 7 && readBytes t.mem 0x8000 4 == [0, 0, 0, 9]) = true := by decide
theorem test_casxa_little : after 0xD5F21109
    (bytes (regs base [(8, 0x8000), (9, 1), (10, 0x0102030405060708)]) 0x8000 [1])
    (fun t => t.readReg 10 == 1 && readBytes t.mem 0x8000 8 == [8, 7, 6, 5, 4, 3, 2, 1]) = true := by
  decide
theorem test_casa_restricted : trapsWith 0xD5E20009 user 0x037 = true := by decide
theorem test_swap : after 0xD27A2004
    (bytes (regs base [(8, 0x8000), (9, 0x122334455)]) 0x8004 [0xAA, 0xBB, 0xCC, 0xDD])
    (fun t => t.readReg 9 == 0xAABBCCDD && readBytes t.mem 0x8004 4 == [0x22, 0x33, 0x44, 0x55])
      = true := by decide

-- Floating-point moves (vectors 2.3)
theorem test_fmovsne : after 0x85AA6021 ({ base with fsr := 0x83FF }.setFWord 1 0x12345678)
    (fun t => t.fWord 2 == 0x12345678 && t.fsr == 0x3E0 && t.fprs == 5) = true := by decide
theorem test_fmovsne_stays : after 0x85AA6021 ({ base with fsr := 0x1F, ccr := 4 }.setFWord 1 5)
    (fun t => t.fWord 2 == 0 && t.fsr == 0 && t.fprs == 4) = true := by decide
theorem test_fmovdg : after 0x81AAB041 ((base.setFWord 32 1).setFWord 33 2)
    (fun t => t.f64 0 == 0x0000000100000002 && t.fprs == 5) = true := by decide
theorem test_fmovqul : after 0xBBA8D864 (({ base with fsr := 0x3000000000 }.setFWord 4 1).setFWord 7 4)
    (fun t => t.f128 60 == t.f128 4 && t.fWord 63 == 4 && t.fprs == 6) = true := by decide
theorem test_fmovq_invalid_field : after 0xBBA8D866 base
    (fun t => (t.trapRegs 1).tt == 0x022 && fsrFtt t.fsr == 6) = true := by decide
theorem test_fmov_reserved_selector : refusal 0x85AA6821 base = some .reservedFmovSelector := by decide
theorem test_fmovrsz_whole_register :
    after 0x8BAA04A3 ((regs base [(8, 0x100000000)]).setFWord 3 7) (fun t => t.fWord 5 == 0) = true := by
  decide
theorem test_fmovrdgez : after 0xBFAC9CC3 ((base.setFWord 34 1).setFWord 35 2)
    (fun t => t.f64 62 == 0x0000000100000002 && t.fprs == 6) = true := by decide
theorem test_fmovrqlz : after 0x99AE0CE8 ((regs base [(24, 0xFFFFFFFFFFFFFFFF)]).setFWord 8 3)
    (fun t => t.fWord 12 == 3) = true := by decide

-- Loads (vectors 2.4)
theorem test_ldf : after 0xC7022008 loads (fun t => t.fWord 3 == 0x99AABBCC && t.fprs == 5) = true := by
  decide
theorem test_ldf_little : after 0xC7022008 (little loads) (fun t => t.fWord 3 == 0xCCBBAA99) = true := by
  decide
theorem test_lddf : after 0xC71A0009 loads (fun t => t.f64 34 == 0x1122334455667788 && t.fprs == 6)
    = true := by decide
theorem test_lddf_half_aligned : trapsWith 0xC71A0009 (regs loads [(9, 4)]) 0x035 = true := by decide
theorem test_ldqf : after 0xC9140000 loads
    (fun t => t.f128 4 == 0x112233445566778899AABBCCDDEEFF00) = true := by decide
theorem test_ldqf_little : refusal 0xC9140000 (little loads) = some .littleEndianQuadLoad := by decide
theorem test_ldfsr : after 0xC10A0000
    (bytes (regs base [(8, 0x8000)]) 0x8000 [0x4F, 0xCF, 0xCF, 0xFF])
    (fun t => t.fsr == 0x4FC00FFF) = true := by decide
theorem test_ldfsr_upper : after 0xC10A0000
    (bytes (regs { base with fsr := 0x3F00000000 } [(8, 0x8000)]) 0x8000 [0xC0, 0, 0, 0])
    (fun t => t.fsr == 0x3FC0000000) = true := by decide
theorem test_ldxfsr : after 0xC30A0000
    (bytes (regs base [(8, 0x8000)]) 0x8000 [0, 0, 0, 0x2A, 0x80, 0, 0, 0])
    (fun t => t.fsr == 0x2A80000000) = true := by decide
theorem test_ldxfsr_reserved : refusal 0xC30A0000
    (bytes (regs base [(8, 0x8000)]) 0x8000 [0, 0, 0, 0x40]) = some .reservedFieldWritten := by decide
theorem test_ldd : after 0xD41A0000 loads
    (fun t => t.readReg 10 == 0x11223344 && t.readReg 11 == 0x55667788) = true := by decide
theorem test_ldd_to_zero : after 0xC01A0000 loads
    (fun t => t.readReg 0 == 0 && t.readReg 1 == 0x55667788) = true := by decide
theorem test_ldda_little : after 0xD49A1100 loads
    (fun t => t.readReg 10 == 0x44332211 && t.readReg 11 == 0x88776655) = true := by decide
theorem test_ldda_restricted : trapsWith 0xD49A0080 { loads with pstate := 0x010 } 0x037 = true := by
  decide

-- MOVr and NOP (vectors 2.5)
theorem test_movrz : after 0x957A0409 (regs base [(9, 0x55)]) (fun t => t.readReg 10 == 0x55) = true := by
  decide
theorem test_movrlez :
    after 0x837E29FF (regs base [(24, 0x8000000000000000)]) (fun t => t.readReg 1 == 511) = true := by
  decide
theorem test_movrlz :
    after 0x89788C03 (regs base [(2, 0x80000000), (3, 1)]) (fun t => t.readReg 4 == 0) = true := by decide
theorem test_movrnz : after 0xA37C37FF (regs base [(16, 0x100000000)])
    (fun t => t.readReg 17 == 0xFFFFFFFFFFFFFFFF) = true := by decide
theorem test_movrgz : after 0x917A3801 (regs base [(8, 7)]) (fun t => t.readReg 8 == 1) = true := by
  decide
theorem test_movrgez : after 0x997AFE00 base (fun t => t.readReg 12 == 0xFFFFFFFFFFFFFE00) = true := by
  decide
theorem test_nop : after 0x01000000 base (fun t => pcs t = (0x1004, 0x1008)) = true := by decide

-- State registers (vectors 2.6)
theorem test_wrfprs : after 0x8D802004 { base with fprs := 3 } (fun t => t.fprs == 4) = true := by decide
theorem test_rdfprs : after 0x91418000 { base with fprs := 5 } (fun t => t.readReg 8 == 5) = true := by
  decide
theorem test_wry :
    after 0x81820009 (regs base [(8, 0xFF00), (9, 0x0FF0)]) (fun t => t.y == 0xF0F0) = true := by decide
theorem test_rdy : after 0x91400000 { base with y := 0xF0F0F0F0 }
    (fun t => t.readReg 8 == 0xF0F0F0F0) = true := by decide
theorem test_wrccr : after 0x85822004 (regs base [(8, 0x1C4)]) (fun t => t.ccr == 0xC0) = true := by
  decide
theorem test_rdccr : after 0x91408000 { base with ccr := 0x45 } (fun t => t.readReg 8 == 0x45) = true := by
  decide
theorem test_wrasi : after 0x87802088 base (fun t => t.asi == 0x88) = true := by decide
theorem test_rdasi : after 0x9140C000 { base with asi := 0x88 } (fun t => t.readReg 8 == 0x88) = true := by
  decide
theorem test_rdpc_masked :
    after 0x91414000 { base with pc := 0x100004000, npc := 0x100004004, pstate := 0x01C }
      (fun t => t.readReg 8 == 0x4000) = true := by decide
theorem test_rdtick_privileged_action : trapsWith 0x91410000 user 0x037 = true := by decide
theorem test_rdtick_user : after 0x91410000 { user with tick := 5 }
    (fun t => t.tl == 0 && t.draws == 1) = true := by decide
theorem test_rdasr : trapsWith 0x91440000 base 0x010 = true := by decide
theorem test_wrasr : trapsWith 0xA1820009 base 0x010 = true := by decide
theorem test_sir_user : after 0x9F802010 user (fun t => pcs t = (0x1004, 0x1008)) = true := by decide
theorem test_rdpr_pstate : after 0x91518000 base (fun t => t.readReg 8 == 0x14) = true := by decide
theorem test_rdpr_tpc_level_zero : trapsWith 0x91500000 base 0x010 = true := by decide
theorem test_wrpr_tstate_reserved : refusal 0x85902020 { base with tl := 1 }
    = some .reservedFieldWritten := by decide
theorem test_rdpr_fq_reserved_bits : trapsWith 0x9153C001 base 0x010 = true := by decide
theorem test_rdpr_tpc_reserved_bits_level_zero : trapsWith 0x91500001 base 0x010 = true := by decide
theorem test_rdpr_tpc_reserved_bits : refusal 0x91500001 { base with tl := 1 }
    = some .reservedInstructionBits := by decide
theorem test_wrpr_cleanwin : after 0x99902007 { base with cleanwin := 1 } (fun t => t.cleanwin == 7)
    = true := by decide
theorem test_wrpr_cleanwin_out_of_range : faultOf 0x99902007
    { base with params := { base.params with nwindows := 4 } } = some .windowRegisterOutOfRange := by
  decide
theorem test_wrpr_pstate : after 0x8D922200 (regs base [(8, 0x014)]) (fun t => t.pstate == 0x214)
    = true := by decide

-- Register windows (vectors 2.7)
theorem test_save : after 0x9DE3BF40 (regs base [(14, 0x8000)])
    (fun t => t.cwp == 1 && t.cansave == 5 && t.canrestore == 1 && t.readReg 14 == 0x7F40 &&
      t.readReg 30 == 0x8000) = true := by decide
theorem test_save_clean_window : after 0x9DE3BF40
    { base with cansave := 3, canrestore := 2, cleanwin := 2, otherwin := 1 }
    (fun t => (t.trapRegs 1).tt == 0x024 && t.cwp == 1) = true := by decide
theorem test_restore_sum : after 0x91EE0019
    (regs { base with cwp := 1, cansave := 5, canrestore := 1 } [(24, 3), (25, 4)])
    (fun t => t.readReg 8 == 7 && t.cwp == 0 && t.cansave == 6 && t.canrestore == 0) = true := by decide
theorem test_restore_fill : after 0x81E80000
    { base with params := { base.params with nwindows := 4 }, cwp := 1 }
    (fun t => (t.trapRegs 1).tt == 0x0C0 && t.cwp == 0) = true := by decide
theorem test_saved : after 0x81880000 { base with cansave := 0, canrestore := 2 }
    (fun t => t.cansave == 1 && t.canrestore == 1) = true := by decide
theorem test_saved_other : after 0x81880000 { base with cansave := 0, otherwin := 2 }
    (fun t => t.cansave == 1 && t.otherwin == 1) = true := by decide
theorem test_restored : after 0x83880000 { base with cleanwin := 6 }
    (fun t => t.canrestore == 1 && t.cansave == 5 && t.cleanwin == 7) = true := by decide
theorem test_restored_guard : after 0x83880000 base (fun t => t.cleanwin == 7) = true := by decide

-- Stores (vectors 2.8)
theorem test_stb : after 0xD42A2008 stores (fun t => readBytes t.mem 0x1008 2 == [0x88, 0]) = true := by
  decide
theorem test_sth : after 0xD4320009 stores (fun t => readBytes t.mem 0x1010 2 == [0x77, 0x88]) = true := by
  decide
theorem test_stw : after 0xD4222008 stores
    (fun t => readBytes t.mem 0x1008 4 == [0x55, 0x66, 0x77, 0x88]) = true := by decide
theorem test_stx_little : after 0xD4722008 (little stores)
    (fun t => readBytes t.mem 0x1008 8 == [0x88, 0x77, 0x66, 0x55, 0x44, 0x33, 0x22, 0x11]) = true := by
  decide
theorem test_std : after 0xD43A2008 stores
    (fun t => readBytes t.mem 0x1008 8 == [0x55, 0x66, 0x77, 0x88, 0xDD, 0xEE, 0xFF, 0x00]) = true := by
  decide
theorem test_std_little : after 0xD43A2008 (little stores)
    (fun t => readBytes t.mem 0x1008 8 == [0x88, 0x77, 0x66, 0x55, 0x00, 0xFF, 0xEE, 0xDD]) = true := by
  decide
theorem test_std_odd : trapsWith 0xD63A2008 stores 0x010 = true := by decide
theorem test_stba : after 0xD4AA1109 stores (fun t => readBytes t.mem 0x1010 1 == [0x88]) = true := by
  decide
theorem test_stha : after 0xD4B21109 stores (fun t => readBytes t.mem 0x1010 2 == [0x88, 0x77])
    = true := by decide
theorem test_stwa : after 0xD4A21109 stores
    (fun t => readBytes t.mem 0x1010 4 == [0x88, 0x77, 0x66, 0x55]) = true := by decide
theorem test_stxa_asi_register : after 0xD4F22008 { stores with asi := 0x80 }
    (fun t => readBytes t.mem 0x1008 8 == [0x11, 0x22, 0x33, 0x44, 0x55, 0x66, 0x77, 0x88]) = true := by
  decide
theorem test_stda : after 0xD4BA1109 stores
    (fun t => readBytes t.mem 0x1010 8 == [0x88, 0x77, 0x66, 0x55, 0x00, 0xFF, 0xEE, 0xDD]) = true := by
  decide
theorem test_store_to_text : faultOf 0xD4222000 stores = some (.storeToProgramText 0x1000) := by decide

-- Tagged add (vectors 2.9)
theorem test_taddcc_overflow : after 0x95022004 (regs base [(8, 0x7FFFFFFC)])
    (fun t => t.readReg 10 == 0x80000000 && t.ccr == 0x0A) = true := by decide
theorem test_taddcc_tag : after 0x95020009 (regs base [(8, 8), (9, 5)])
    (fun t => t.readReg 10 == 0xD && t.ccr == 0x02) = true := by decide
theorem test_taddcctv_overflow : after 0x95120009 (regs { base with ccr := 0x44 } [(8, 8), (9, 5)])
    (fun t => (t.trapRegs 1).tt == 0x023 && t.readReg 10 == 0 && t.ccr == 0x44) = true := by decide
theorem test_taddcctv : after 0x95122004 (regs base [(8, 8)])
    (fun t => t.readReg 10 == 0xC && t.ccr == 0) = true := by decide

-- Traps and resets (vectors 2.10)
theorem test_trap_entry : after 0x91518000
    { base with pc := 0x2000, npc := 0x2004, ccr := 0x44, asi := 0x80, pstate := 0x012, cwp := 3 }
    (fun t => t.tl == 1 && pcs t == (0x10220, 0x10224) && t.pstate == 0x015 &&
      t.trapRegs 1 == ⟨0x2000, 0x2004, 0x0000004480001203, 0x011⟩) = true := by decide
theorem test_trap_tle : after 0x91518000 { base with pstate := 0x112 } (fun t => t.pstate == 0x315)
    = true := by decide
theorem test_spill : after 0x9DE3BF40 { base with cwp := 5, cansave := 0, wstate := 2 }
    (fun t => tstateCwp (t.trapRegs 1).tstate == 5 && t.cwp == 7 && (t.trapRegs 1).tt == 0x088 &&
      t.pc == 0x11100) = true := by decide
theorem test_spill_level_one : after 0x9DE3BF40 { base with tl := 1, cwp := 5, cansave := 0, wstate := 2 }
    (fun t => t.pc == 0x15100) = true := by decide
theorem test_red_state : after 0x91518000 { base with tl := 3, pstate := 0x112 }
    (fun t => t.tl == 4 && t.pc == 0xFFFFFFFFF00000A0 && t.npc == 0xFFFFFFFFF00000A4) = true := by decide
theorem test_sir : after 0x9F802010 { base with pc := 0x4000, npc := 0x4004, pstate := 0x114 }
    (fun t => t.tl == 1 && t.pc == 0xFFFFFFFFF0000080 &&
      t.trapRegs 1 == ⟨0x4000, 0x4004, 0x0000000000011400, 0x004⟩) = true := by decide
theorem test_red_pstate : redPstate 0x114 false 0 = 0x235 ∧ redPstate 0x114 true 0 = 0x335 := by decide
theorem test_error_state : after 0x91500000 { user with tl := 4 } (fun t => t.errorState && t.tl == 4)
    = true := by decide
-- The run (R431, D20): it ends at the first trap, or at the exit address outside the program text
theorem test_run_first_trap : (match runProgram 9 (user.withFetchWord 32 0x91518000) with
    | .firstTrap tt t => decide (tt = 0x011 ∧ (t.trapRegs 1).tpc = 0x1000)
    | _ => false) = true := by decide
theorem test_run_program_end :
    (match runProgram 9 ({ base with launch := { base.launch with exit := some 0x1004 } }.withFetchWord
        32 0x01000000) with
      | .programEnd t => decide (t.pc = 0x1004)
      | _ => false) = true := by decide
theorem test_trap_in_delay_slot : after 0x91518000 { user with pc := 0x1004, npc := 0x2000 }
    (fun t => (t.trapRegs 1).tpc == 0x1004 && (t.trapRegs 1).tnpc == 0x2000) = true := by decide

-- The overflow, underflow and inexact table S3 and Table 28 (vectors S4), single precision
theorem test_s3_row_eight : fpTrapBit 0b00101 ⟨false, false, true, false, true⟩ = some 0b00100 := by decide
theorem test_s4_uf_nx : detectUnderflow false false fpSingle 0 (1 / 2 ^ 151) 0
    = ⟨false, false, true, false, true⟩ := by decide +kernel
theorem test_s4_after_rounding :
    detectUnderflow true false fpSingle 0 (1 / 2 ^ 126 - 1 / 2 ^ 152) (1 / 2 ^ 126)
      = ⟨false, false, false, false, true⟩ := by decide +kernel

/-! ### Witnesses

One theorem for every statement with hypotheses: a state and operands that meet them, each clause at a
boundary value. -/

/-- A legal state by evaluation. -/
theorem legal_of (s : State)
    (h : s.params.wf ∧ Memory.wf s.mem = true ∧ s.pc.extractLsb' 0 2 = 0 ∧ s.npc.extractLsb' 0 2 = 0 ∧
      (∀ n : BitVec 3, (s.trapRegs n).tpc.extractLsb' 0 2 = 0) ∧
      (∀ n : BitVec 3, (s.trapRegs n).tnpc.extractLsb' 0 2 = 0) ∧
      (∀ n : BitVec 3, tstateFields s.params (s.trapRegs n).tstate = (s.trapRegs n).tstate) ∧
      s.tl.toNat ≤ s.params.maxtl ∧ (s.errorState = true → s.tl.toNat = s.params.maxtl) ∧
      s.pstate &&& pstateMask s.params = s.pstate ∧ s.mm ≠ 3 ∧ s.tba.extractLsb' 0 15 = 0 ∧
      s.cwp.toNat < s.params.nwindows ∧ s.cansave.toNat < s.params.nwindows ∧
      s.canrestore.toNat < s.params.nwindows ∧ s.cleanwin.toNat < s.params.nwindows ∧
      s.otherwin.toNat < s.params.nwindows ∧ s.fsr &&& fsrZeroBits = 0) : s.Legal := by
  obtain ⟨h1, h2, h3, h4, h5, h6, h7, h8, h9, h10, h11, h12, h13, h14, h15, h16, h17, h18⟩ := h
  exact ⟨h1, h2, h3, h4, h5, h6, h7, h8, h9, h10, h11, h12, h13, h14, h15, h16, h17, h18⟩

/-- base with a word to execute. -/
def running (w : Nat) : State := base.withFetchWord 32 w

theorem base_legal : base.Legal := legal_of _ (by decide)
theorem user_legal : user.Legal := legal_of _ (by decide)
theorem running_legal : (running 0x95020009).Legal := legal_of _ (by decide)

theorem witness_DecodeUndoesEncode :
    (Instr.taddcc 10 8 (.reg 9)).wf = true ∧ (Instr.rdasr16_31 31 16).wf = true := by decide

theorem witness_EncodeUndoesDecode : decode 0x95020009 = .instr (.taddcc 10 8 (.reg 9)) := by decide

/-- The clauses of IllegalEncodingsTrap, by number; 7 to 11 are those of privileged opcodes, 10 and 11
the ones at TL = 0. -/
def illegalClause (k : Nat) (w : IWord) : Bool :=
  let op := (w.extractLsb' 30 2).toNat
  let rd := (w.extractLsb' 25 5).toNat
  let op2 := (w.extractLsb' 22 3).toNat
  let op3 := (w.extractLsb' 19 6).toNat
  let rs1 := (w.extractLsb' 14 5).toNat
  match k with
  | 0 => decide (op = 0 ∧ op2 = 1 ∧ w.getLsbD 20 = true)
  | 1 => decide (op = 0 ∧ op2 = 3 ∧
      (w.getLsbD 28 = true ∨ w.extractLsb' 25 3 = 0 ∨ w.extractLsb' 25 3 = 4))
  | 2 => decide (op = 2 ∧ op3 = 0x2F ∧ (w.extractLsb' 10 3 = 0 ∨ w.extractLsb' 10 3 = 4))
  | 3 => decide (op = 3 ∧ (op3 = 0x03 ∨ op3 = 0x13 ∨ op3 = 0x07 ∨ op3 = 0x17) ∧ rd % 2 = 1)
  | 4 => decide (op = 3 ∧ op3 = 0x21 ∧ 2 ≤ rd)
  | 5 => decide (op = 2 ∧ op3 = 0x28 ∧ (rs1 = 1 ∨ (7 ≤ rs1 ∧ rs1 ≠ 15)))
  | 6 => decide (op = 2 ∧ op3 = 0x30 ∧ (rd = 1 ∨ rd = 4 ∨ rd = 5 ∨ (7 ≤ rd ∧ rd ≠ 15) ∨
      (rd = 15 ∧ (rs1 ≠ 0 ∨ w.getLsbD 13 = false))))
  | 7 => decide (op = 2 ∧ op3 = 0x31 ∧ 2 ≤ rd)
  | 8 => decide (op = 2 ∧ op3 = 0x2A ∧ 15 ≤ rs1 ∧ rs1 ≤ 30)
  | 9 => decide (op = 2 ∧ op3 = 0x32 ∧ 15 ≤ rd)
  | 10 => decide (op = 2 ∧ op3 = 0x2A ∧ rs1 ≤ 3)
  | _ => decide (op = 2 ∧ op3 = 0x32 ∧ rd ≤ 3)

/-- A word with op, rd, op3, rs1 and the low 14 bits. -/
def word3 (op rd op3 rs1 low : Nat) : Nat :=
  op * 2 ^ 30 + rd * 2 ^ 25 + op3 * 2 ^ 19 + rs1 * 2 ^ 14 + low

/-- Every one of the words is fetched and meets the clause. -/
def clauseWitness (k : Nat) (ws : List Nat) : Bool :=
  ws.all fun w => (fetchFault (running w)).isNone &&
    (decide ((running w).wordAt (running w).pc = BitVec.ofNat 32 w) &&
      illegalClause k (BitVec.ofNat 32 w))

theorem witness_IllegalEncodingsTrap_branches :
    clauseWitness 0 [0x10500004, 0x10700004] = true ∧
    clauseWitness 1 [0x12C20004, 0x00C20004, 0x08C20004, 0x1EC20004] = true := by decide
theorem witness_IllegalEncodingsTrap_memory :
    clauseWitness 2 [word3 2 1 0x2F 8 0, word3 2 1 0x2F 8 0x1000] = true ∧
    clauseWitness 3 [word3 3 1 0x03 8 0, word3 3 31 0x13 8 0, word3 3 11 0x07 8 0,
      word3 3 1 0x17 8 0] = true ∧
    clauseWitness 4 [word3 3 2 0x21 8 0, word3 3 31 0x21 8 0] = true := by decide
theorem witness_IllegalEncodingsTrap_registers :
    clauseWitness 5 ([1, 7, 14, 16, 31].map fun r => word3 2 1 0x28 r 0) = true ∧
    clauseWitness 6 ([1, 4, 5, 7, 14, 16, 31].map fun r => word3 2 r 0x30 8 0) = true ∧
    clauseWitness 6 [word3 2 15 0x30 1 0x2000, word3 2 15 0x30 0 0] = true := by decide
theorem witness_IllegalEncodingsTrap_privileged :
    clauseWitness 7 [word3 2 2 0x31 0 0, word3 2 31 0x31 0 0] = true ∧
    clauseWitness 8 [word3 2 1 0x2A 15 0, word3 2 1 0x2A 15 1, word3 2 1 0x2A 30 0x2000] = true ∧
    clauseWitness 9 [word3 2 15 0x32 8 0, word3 2 31 0x32 8 0x20] = true := by decide
theorem witness_IllegalEncodingsTrap_level_zero :
    clauseWitness 10 [word3 2 1 0x2A 0 1, word3 2 1 0x2A 3 0] = true ∧
    clauseWitness 11 [word3 2 0 0x32 8 0x20, word3 2 3 0x32 8 0] = true ∧
    (running 0).tl = 0 := by decide

theorem witness_StepRunsTheDecodedInstruction :
    (running 0x95020009).errorState = false ∧
      (running 0x95020009).inText (running 0x95020009).pc = true ∧
      (running 0x95020009).codeExists (running 0x95020009).pc = true ∧
      decode ((running 0x95020009).wordAt (running 0x95020009).pc)
        = .instr (.taddcc 10 8 (.reg 9)) := by decide

theorem witness_StepStopsWithoutAnInstruction :
    ({ base with errorState := true } : State).errorState = true ∧
    (let s : State := { base with launch := { base.launch with exit := some 0x1000 } };
      s.errorState = false ∧ s.inText s.pc = false ∧ s.launch.exit = some (s.maskAddr s.pc)) ∧
    (base.errorState = false ∧ base.inText base.pc = false ∧
      base.launch.exit ≠ some (base.maskAddr base.pc)) ∧
    (let s : State := { base with launch := { base.launch with text := [⟨0x1000, 4⟩], extent := [] } };
      s.errorState = false ∧ s.inText s.pc = true ∧ s.codeExists s.pc = false) := by decide

theorem witness_EveryStepKeepsTheLegalState :
    (running 0x95020009).Legal ∧ ∃ t, step (running 0x95020009) = .next t :=
  ⟨running_legal, _, rfl⟩

theorem witness_OnlyATrapEntersPrivilegedMode :
    (user.withFetchWord 32 0x95020009).priv = false ∧
      ∃ t, step (user.withFetchWord 32 0x95020009) = .next t :=
  ⟨by decide, _, rfl⟩

theorem witness_ProgramTextNeverChanges :
    (∃ t, step (running 0xD42A2008) = .next t) ∧
      inRanges (running 0xD42A2008).launch.text 0x1003 = true :=
  ⟨⟨_, rfl⟩, by decide⟩

theorem witness_IntegerRegisterFile :
    (8 : Reg) ≠ 0 ∧ base.cellOf 8 = some (.inn 1 0) ∧ base.cellOf 8 ≠ some (.inn 1 1) ∧
      base.params.wf ∧ (8 : Reg) ≠ 31 := by decide

theorem witness_OutsAreTheNextWindowsIns : base.params.wf ∧ (6 : BitVec 5) ≠ 7 := by decide

theorem witness_FloatRegistersAreOneStorage :
    (62 : BitVec 6).extractLsb' 0 1 = 0 ∧ (0 : BitVec 6) ≠ 62 ∧ (0 : BitVec 6) ≠ 62 + 1 ∧
    (60 : BitVec 6).extractLsb' 0 2 = 0 ∧
    (59 : BitVec 6).extractLsb' 2 4 ≠ (60 : BitVec 6).extractLsb' 2 4 := by decide

theorem witness_MemoryIsAnArrayOfBytes :
    Memory.wf [(7, 1)] = true ∧ (2 ^ 64 - 2) + [1, (2 : Byte)].length ≤ 2 ^ 64 ∧
      (∀ p ∈ ([(7, 1)] : Memory), p.1 ≠ 8) := by decide

theorem witness_ByteOrderOfAValue : 0 < 8 ∧ 7 < 8 := by decide

theorem witness_IntegerBranches : base.branchInDelaySlot = false := by decide

theorem witness_FloatingBranches : base.branchInDelaySlot = false ∧ base.fpEnabled = true := by decide

theorem witness_BranchInADelaySlotIsRefused :
    (let s : State := { bytes base 0x1004 [0x30, 0x80, 0x00, 0x02] with
        launch := { base.launch with text := [⟨0x1000, 8⟩] } };
      s.branchInDelaySlot = true ∧ s.fpEnabled = true) := by decide

theorem witness_NonBranchesAdvanceOrTrap :
    ¬ isBranchInstr .nop ∧ exec .nop base = .next (base.nextWithMem base.mem) := by
  refine ⟨?_, rfl⟩
  rintro (⟨c, a, d, h⟩ | ⟨c, a, cc, p, d, h⟩ | ⟨c, a, p, r, d, h⟩ | ⟨c, a, d, h⟩ | ⟨c, a, cc, p, d, h⟩)
    <;> cases c <;> cases h

/-- Memory at 0x8000 holds 7 as a word in both byte orders' reading of the same bytes. -/
def locked : State := bytes (regs base [(8, 0x8000), (9, 7), (10, 9)]) 0x8000 [0, 0, 0, 7, 0, 0, 0, 0]

theorem witness_CompareAndSwap :
    locked.asiUsable (locked.casAsi (.immAsi 0x80)) ∧ nofaultAsi (locked.casAsi (.immAsi 0x80)) = false ∧
    locked.storable (locked.casAddr 8) 4 ∧ locked.storable (locked.casAddr 8) 8 ∧
    locked.valueAt 0x80 (locked.casAddr 8) 4 = (locked.readReg 9).toNat % 2 ^ 32 ∧
    locked.valueAt 0x80 (locked.casAddr 8) 4 ≠ (locked.readReg 10).toNat % 2 ^ 32 ∧
    locked.valueAt 0x80 (locked.casAddr 8) 8 ≠ (locked.readReg 9).toNat ∧
    (regs locked [(9, 0x700000000)]).valueAt 0x80 (locked.casAddr 8) 8
      = ((regs locked [(9, 0x700000000)]).readReg 9).toNat := by
  simp only [State.asiUsable, State.storable]
  decide

theorem witness_SwapExchanges : locked.storable (locked.effAddr 8 (.imm 4)) 4 := by
  simp only [State.storable]
  decide

theorem witness_FloatingMoves :
    base.fpEnabled = true ∧ quadFieldInvalid 0b11101 = false ∧ quadFieldInvalid 0 = false ∧
      fcondTest .e (fsrFcc base.fsr .fcc0) = true ∧ fcondTest .g (fsrFcc base.fsr .fcc0) = false ∧
      icondTest .ne (ccrIcc base.ccr) = true ∧ icondTest .e (ccrIcc base.ccr) = false ∧
      rcondTest .z (base.readReg 8) = true ∧ rcondTest .nz (base.readReg 8) = false := by decide

theorem witness_FmovClearsCexcAndFtt :
    (∃ t, exec (mkFmovFcc .single .fcc0 .e 1 2) base = .next t) ∧
      (∃ t, exec (mkFmovIcc .single .xcc .ne 1 2) base = .next t) ∧
      (∃ t, exec (mkFmovr .double .nz 1 8 2) base = .next t) :=
  ⟨⟨_, rfl⟩, ⟨_, rfl⟩, _, rfl⟩

theorem witness_FpDisabledTraps :
    ({ base with fprs := 3 } : State).fprs.getLsbD 2 = false ∧
      ({ base with pstate := 0x004 } : State).pstate.getLsbD 4 = false := by decide

theorem witness_InvalidQuadFieldTraps :
    base.fpEnabled = true ∧ base.tl.toNat < base.params.maxtl ∧ quadFieldInvalid 2 = true ∧
      quadFieldInvalid 6 = true ∧ (base.effAddr 0 (.imm 0x10)).toNat % 16 = 0 := by decide

theorem witness_FloatingLoads :
    loads.fpEnabled = true ∧ loads.loadable (loads.effAddr 8 (.imm 4)) 4 ∧
      loads.loadable (loads.effAddr 8 (.imm 8)) 8 ∧ quadFieldInvalid 1 = false ∧
      loads.loadable (loads.effAddr 16 (.imm 0)) 16 ∧ littleAsi loads.implicitAsi = false ∧
      littleAsi (little loads).implicitAsi = true ∧
      ((little loads).effAddr 16 (.imm 0)).toNat % 16 = 0 := by
  simp only [State.loadable]
  decide

/-- The reserved fields of FSR are zero in a value to load. -/
def cleanFsr (w : Word) : Prop := w.extractLsb' 38 26 = 0 ∧ w.extractLsb' 28 2 = 0 ∧
  w.extractLsb' 20 2 = 0 ∧ w.getLsbD 12 = false

/-- Zeros at 0x8000, every bit of a doubleword but the reserved ones at 0x8008, one reserved bit of it in
each of the words at 0x8010 and 0x8014. -/
def fsrValues : State := bytes (regs base [(8, 0x8000)]) 0x8008
  [0, 0, 0, 0x3F, 0xCF, 0xCF, 0xEF, 0xFF, 0, 0, 0, 0x40, 0, 0, 0x10, 0]

theorem witness_FsrLoads :
    fsrValues.fpEnabled = true ∧
    (let a (d : BitVec 13) := fsrValues.effAddr 8 (.imm d);
      fsrValues.loadable (a 0xC) 4 ∧ fsrValues.loadable (a 0x14) 4 ∧
      fsrValues.loadable (a 8) 8 ∧ fsrValues.loadable (a 0x10) 8 ∧
      cleanFsr (BitVec.ofNat 64 (fsrValues.valueAt 0x80 (a 0xC) 4)) ∧
      ¬ cleanFsr (BitVec.ofNat 64 (fsrValues.valueAt 0x80 (a 0x14) 4)) ∧
      cleanFsr (BitVec.ofNat 64 (fsrValues.valueAt 0x80 (a 8) 8)) ∧
      ¬ cleanFsr (BitVec.ofNat 64 (fsrValues.valueAt 0x80 (a 0x10) 8))) ∧
    fsrValues.implicitAsi = 0x80 := by
  simp only [State.loadable, cleanFsr]
  decide

theorem witness_PairLoads :
    (30 : Reg).getLsbD 0 = false ∧ loads.loadable (loads.effAddr 8 (.imm 8)) 8 ∧
      loads.loadable (loads.altAddr 8 (.immAsi 0x88 0)) 8 ∧
      loads.asiUsable (loads.altAsi (.immAsi 0x88 0)) := by
  simp only [State.loadable, State.asiUsable]
  decide

theorem witness_PlainStores :
    stores.storable (stores.effAddr 8 (.imm 0x1FFF)) 1 ∧ stores.storable (stores.effAddr 8 (.imm 2)) 2 ∧
      stores.storable (stores.effAddr 8 (.imm 4)) 4 ∧ stores.storable (stores.effAddr 8 (.imm 8)) 8 := by
  simp only [State.storable]
  decide

theorem witness_AlternateStores :
    (let alt : AltOperand := .immAsi 0x88 9;
      stores.storable (stores.altAddr 8 alt) 1 ∧ stores.storable (stores.altAddr 8 alt) 2 ∧
      stores.storable (stores.altAddr 8 alt) 4 ∧ stores.storable (stores.altAddr 8 alt) 8 ∧
      stores.asiUsable (stores.altAsi alt) ∧ nofaultAsi (stores.altAsi alt) = false) := by
  simp only [State.storable, State.asiUsable]
  decide

theorem witness_PairStores :
    (10 : Reg).getLsbD 0 = false ∧ stores.storable (stores.effAddr 8 (.imm 8)) 8 ∧
      stores.storable (stores.altAddr 8 (.immAsi 0x88 9)) 8 ∧
      stores.asiUsable (stores.altAsi (.immAsi 0x88 9)) ∧
      nofaultAsi (stores.altAsi (.immAsi 0x88 9)) = false := by
  simp only [State.storable, State.asiUsable]
  decide

theorem witness_MisalignedAccessesTrap :
    (let a (d : BitVec 13) := (base.effAddr 0 (.imm d)).toNat;
      a 1 % 2 ≠ 0 ∧ a 2 % 4 ≠ 0 ∧ a 4 % 8 ≠ 0 ∧ a 4 % 4 = 0 ∧ a 8 % 4 = 0 ∧ a 8 % 16 ≠ 0) ∧
    (2 : Reg).getLsbD 0 = false ∧ base.fpEnabled = true ∧
    (let a (d : BitVec 13) := (base.altAddr 0 (.asiReg d)).toNat;
      a 1 % 2 ≠ 0 ∧ a 2 % 4 ≠ 0 ∧ a 4 % 8 ≠ 0) ∧
    ((regs base [(8, 2)]).casAddr 8).toNat % 4 ≠ 0 ∧
    ((regs base [(8, 4)]).casAddr 8).toNat % 8 ≠ 0 := by decide

theorem witness_AsiChecksTrap :
    (user.altAsi (.immAsi 0x7F 0)).toNat < 0x80 ∧ user.priv = false ∧
    0x80 ≤ (user.altAsi (.immAsi 0x84 0)).toNat ∧ knownAsi 0x84 = false ∧ nofaultAsi 0x82 = true ∧
    0x80 ≤ (user.casAsi (.immAsi 0x8B)).toNat ∧ nofaultAsi 0x8B = true ∧
    base.priv = true ∧ knownAsi 0x00 = false ∧
    (user.altAddr 0 (.immAsi 0x7F 0)).toNat % 8 = 0 ∧ (user.casAddr 0).toNat % 8 = 0 ∧
    (2 : Reg).getLsbD 0 = false := by decide

theorem witness_AccessesOutsideMemoryFault :
    -- no memory, and program text there too: both faults hold
    (let s : State := regs { base with
        launch := { base.launch with extent := [⟨0, 0x10⟩], text := [⟨0x10, 0x10⟩] } } [(8, 0x10)];
      let a := s.effAddr 0 (.imm 0x10);
      a.toNat % 16 = 0 ∧ s.hasMemory a 1 = false ∧ s.hasMemory a 16 = false ∧
      s.touchesText a 1 = true ∧ s.altAddr 0 (.asiReg 0x10) = a ∧ s.casAddr 8 = a) ∧
    -- memory, and program text in the upper half of a doubleword
    (let s : State := regs { base with
        launch := { base.launch with text := [⟨0x14, 4⟩] } } [(8, 0x10), (9, 0x14)];
      let a := s.effAddr 0 (.imm 0x10);
      a.toNat % 8 = 0 ∧ s.hasMemory a 8 = true ∧ s.touchesText a 8 = true ∧
      (s.effAddr 0 (.imm 0x14)).toNat % 4 = 0 ∧ s.touchesText (s.effAddr 0 (.imm 0x14)) 1 = true ∧
      s.altAddr 0 (.asiReg 0x10) = a ∧ s.casAddr 8 = a ∧ (s.casAddr 9).toNat % 4 = 0) ∧
    base.asiUsable (base.altAsi (.immAsi 0x88 0)) ∧ nofaultAsi (base.altAsi (.immAsi 0x88 0)) = false ∧
    base.asiUsable (base.casAsi (.immAsi 0x10)) ∧ nofaultAsi (base.casAsi (.immAsi 0x10)) = false ∧
    base.fpEnabled = true ∧ littleAsi base.implicitAsi = false ∧ quadFieldInvalid 1 = false ∧
    (2 : Reg).getLsbD 0 = false := by
  simp only [State.asiUsable]
  decide

theorem witness_StoreThenLoad :
    (0x1000 : Word).toNat % 8 = 0 ∧ littleAsi 0x80 = littleAsi 0x04 ∧ littleAsi 0x80 ≠ littleAsi 0x88 ∧
      littleAsi 0x88 = true ∧ littleAsi 0x0C = true ∧ littleAsi 0x80 = false := by decide

theorem witness_MovrMovesAndNopDoesNot :
    rcondTest .lez (base.readReg 8) = true ∧ rcondTest .gz (base.readReg 8) = false := by decide

theorem witness_StateRegisterReads :
    base.am = false ∧ ({ base with pstate := 0x01C } : State).am = true := by decide

theorem witness_TickReads :
    base.priv = true ∧ (user.priv = false ∧ user.tick.getLsbD 63 = true) ∧
      ({ user with tick := 0x7FFFFFFFFFFFFFFF } : State).tick.getLsbD 63 = false := by decide

theorem witness_SirResetsOrDoesNothing :
    user.Legal ∧ user.priv = false ∧ user.sirEnable = false ∧ base.Legal ∧ base.priv = true ∧
      base.tl.toNat < base.params.maxtl ∧ State.reset.Legal ∧ State.reset.priv = true ∧
      State.reset.tl.toNat = State.reset.params.maxtl :=
  ⟨user_legal, by decide, by decide, base_legal, by decide, by decide, legal_of _ (by decide),
    by decide, by decide⟩

theorem witness_PrivilegedReads :
    ({ base with tl := 1 } : State).Legal ∧ ({ base with tl := 1 } : State).priv = true ∧
      ({ base with tl := 1 } : State).tl ≠ 0 :=
  ⟨legal_of _ (by decide), by decide, by decide⟩

theorem witness_PrivilegedWrites :
    (let s : State := { base with tl := 4 };
      s.Legal ∧ s.priv = true ∧ s.tl ≠ 0 ∧
      (let v := s.readReg 0 ^^^ s.operand2 (.imm 4);
        v.extractLsb' 6 2 ≠ 3 ∧ (v.extractLsb' 0 3).toNat ≤ s.params.maxtl) ∧
      (let v := s.readReg 0 ^^^ s.operand2 (.imm 7);
        (v.extractLsb' 0 5).toNat < s.params.nwindows) ∧
      (let v := s.readReg 0 ^^^ s.operand2 (.imm 0xF1F);
        v.extractLsb' 40 24 = 0 ∧ v.extractLsb' 20 4 = 0 ∧ v.extractLsb' 5 3 = 0) ∧
      (let v := s.readReg 0 ^^^ s.operand2 (.imm 0x20);
        ¬ (v.extractLsb' 40 24 = 0 ∧ v.extractLsb' 20 4 = 0 ∧ v.extractLsb' 5 3 = 0))) :=
  ⟨legal_of _ (by decide), by decide⟩

theorem witness_PrivilegedInstructionsThatTrapOrStop :
    user.priv = false ∧ base.priv = true ∧ base.tl = 0 ∧ base.params.wf ∧
    (15 ≤ (15 : Reg).toNat ∧ (30 : Reg).toNat ≤ 30 ∧ (3 : Reg).toNat ≤ 3) ∧
    (9 ≤ (9 : Reg).toNat ∧ (13 : Reg).toNat ≤ 13) ∧
    base.params.nwindows ≤ ((base.readReg 0 ^^^ base.operand2 (.imm 8)).extractLsb' 0 5).toNat ∧
    (base.readReg 0 ^^^ base.operand2 (.imm 0xC0)).extractLsb' 6 2 = 3 ∧
    base.params.maxtl < ((base.readReg 0 ^^^ base.operand2 (.imm 5)).extractLsb' 0 3).toNat := by decide

theorem witness_SaveOpensAWindow :
    base.cansave ≠ 0 ∧ base.cleanwin ≠ base.canrestore ∧
      base.canrestore.toNat + 1 < base.params.nwindows := by decide

theorem witness_RestoreClosesAWindow :
    (let s : State := { base with canrestore := 1, cansave := 5 };
      s.Legal ∧ s.canrestore ≠ 0 ∧ s.cansave.toNat + 1 < s.params.nwindows ∧ s.cwp = 0) :=
  ⟨legal_of _ (by decide), by decide, by decide, by decide⟩

theorem witness_SavedAndRestoredCount :
    base.priv = true ∧ base.cansave.toNat + 1 < base.params.nwindows ∧ base.otherwin = 0 ∧
      ({ base with canrestore := 1 } : State).canrestore ≠ 0 ∧
      ({ base with otherwin := 1 } : State).otherwin ≠ 0 ∧ base.cansave ≠ 0 ∧
      base.canrestore.toNat + 1 < base.params.nwindows := by decide

theorem witness_WindowCountsOutOfRangeFault :
    base.params.wf ∧
    (let s : State := { base with canrestore := 7, cleanwin := 6 };
      s.cansave ≠ 0 ∧ s.cleanwin ≠ s.canrestore ∧ s.params.nwindows ≤ s.canrestore.toNat + 1 ∧
      s.priv = true) ∧
    (let s : State := { base with cansave := 7, canrestore := 1 };
      s.canrestore ≠ 0 ∧ s.params.nwindows ≤ s.cansave.toNat + 1 ∧ s.priv = true) ∧
    (base.priv = true ∧ base.otherwin = 0 ∧ base.canrestore = 0) ∧
    (let s : State := { base with cansave := 0, canrestore := 6 };
      s.priv = true ∧ s.otherwin = 0 ∧ s.cansave = 0) := by decide

theorem witness_WindowTraps :
    base.Legal ∧ base.red = false ∧ base.tl.toNat + 1 < base.params.maxtl ∧ base.canrestore = 0 ∧
      base.otherwin = 0 ∧ ({ base with otherwin := 1 } : State).Legal ∧
      ({ base with cansave := 0 } : State).Legal ∧
      ({ base with cansave := 0, otherwin := 7 } : State).Legal ∧
      (let s : State := { base with cleanwin := 0 };
        s.Legal ∧ s.cansave ≠ 0 ∧ s.cleanwin = s.canrestore) :=
  ⟨base_legal, by decide, by decide, by decide, by decide, legal_of _ (by decide),
    legal_of _ (by decide), legal_of _ (by decide), legal_of _ (by decide), by decide, by decide⟩

theorem witness_WindowSumIsKept :
    base.Legal ∧ (∃ t, exec (.save 14 14 (.imm 0)) base = .next t) ∧
      ∀ rs1 op2, (Instr.save 14 14 (.imm 0)) ≠ .wrpr 10 rs1 op2 ∧
        (Instr.save 14 14 (.imm 0)) ≠ .wrpr 11 rs1 op2 ∧
        (Instr.save 14 14 (.imm 0)) ≠ .wrpr 13 rs1 op2 := by
  refine ⟨base_legal, ⟨_, rfl⟩, fun rs1 op2 => ?_⟩
  simp

theorem witness_TaggedAdds :
    (let s := regs base [(8, 0x7FFFFFFC), (9, 4)];
      let a32 := (s.readReg 8).extractLsb' 0 32;
      let b32 := (s.operand2 (.reg 9)).extractLsb' 0 32;
      a32.toInt + b32.toInt ≠ (a32 + b32).toInt) ∧
    (let s := regs base [(8, 0x7FFFFFF8), (9, 4)];
      let a32 := (s.readReg 8).extractLsb' 0 32;
      let b32 := (s.operand2 (.reg 9)).extractLsb' 0 32;
      (s.readReg 8).extractLsb' 0 2 = 0 ∧ (s.operand2 (.reg 9)).extractLsb' 0 2 = 0 ∧
        a32.toInt + b32.toInt = (a32 + b32).toInt) := by decide

theorem witness_NormalTrapEntry :
    base.Legal ∧ Exc.privilegedOpcode.isReset = false ∧ base.red = false ∧
      ({ base with tl := 2 } : State).Legal ∧ base.tl.toNat + 1 < base.params.maxtl ∧
      ({ base with tl := 2 } : State).tl.toNat + 1 < base.params.maxtl ∧ base.am = false ∧
      ({ base with pstate := 0x01C } : State).Legal ∧ ({ base with pstate := 0x01C } : State).am = true :=
  ⟨base_legal, by decide, by decide, legal_of _ (by decide), by decide, by decide, by decide,
    legal_of _ (by decide), by decide⟩

theorem witness_RedStateEntry :
    ({ base with tl := 3 } : State).Legal ∧
      ({ base with tl := 3 } : State).tl.toNat + 1 = base.params.maxtl ∧
      ({ base with pstate := 0x034 } : State).Legal ∧
      ({ base with pstate := 0x034 } : State).red = true ∧
      base.Legal ∧ base.tl.toNat < base.params.maxtl ∧
      (Exc.softwareInitiatedReset.isReset = true ∧ Exc.watchdogReset.isReset = true ∧
        Exc.externallyInitiatedReset.isReset = true) ∧
      (Exc.cleanWindow.tt = 0x024 ∧ (Exc.spillNormal 0).tt = 0x080 ∧ (Exc.spillOther 7).tt = 0x0BC ∧
        (Exc.fillNormal 0).tt = 0x0C0 ∧ (Exc.fillOther 7).tt = 0x0FC) :=
  ⟨legal_of _ (by decide), by decide, legal_of _ (by decide), by decide, base_legal, by decide,
    by decide, by decide⟩

theorem witness_TrapAtMaxtlEntersErrorState :
    State.reset.tl.toNat = State.reset.params.maxtl ∧ Exc.privilegedOpcode.isReset = false := by decide

theorem witness_ReturnFromTrapResumes :
    base.Legal ∧ Exc.tagOverflow.isReset = false ∧ base.red = false ∧ base.am = false ∧
      base.tl.toNat + 1 < base.params.maxtl ∧
      (let s : State := { base with pstate := 0x01C, pc := 0x100001000, npc := 0x100001004 };
        s.Legal ∧ s.red = false ∧ s.am = true ∧ s.tl.toNat + 1 < s.params.maxtl) :=
  ⟨base_legal, by decide, by decide, by decide, by decide, legal_of _ (by decide), by decide⟩

theorem witness_FpopEndsByTrapOrResult :
    base.tl.toNat < base.params.maxtl ∧
    (⟨false, true, false, false, true⟩ : FpDetected).bits &&& fsrTem 0x800000 ≠ 0 ∧
    (⟨false, true, false, false, true⟩ : FpDetected).bits &&& fsrTem 0 = 0 := by decide

theorem witness_UnderflowTable28 :
    0 < fpSingle.m ∧
    (let u : Rat := 1 / 2 ^ 127;
      u ≠ 0 ∧ -fpSingle.m < u ∧ u < fpSingle.m) ∧
    ¬ (fpSingle.m ≠ 0 ∧ -fpSingle.m < fpSingle.m ∧ fpSingle.m < fpSingle.m) := by decide +kernel

theorem witness_UnderflowAfterRounding :
    ((1 : Rat) / 2 ^ 127) ≠ 0 ∧ ((1 : Rat) / 2 ^ 127) < fpSingle.m * (1 - fpSingle.e / 4) ∧
      ¬ (fpSingle.m < fpSingle.m) := by decide +kernel

end Sys2Proof.Tests
end

section
/-! SUPPORT. The family 10_state: the legal state, the register files, the program counters. -/

namespace Sys2Proof.Machine

open Sys2Proof.Config

/-! ### Multiples of 4: PC, nPC, TPC, TNPC (R24, R297) -/

/-- The two low bits of an address are zero exactly where the address is a multiple of 4. -/
theorem lowBits_eq_zero_iff (a : Word) : a.extractLsb' 0 2 = 0 ↔ a.toNat % 4 = 0 := by
  rw [← BitVec.toNat_inj, BitVec.extractLsb'_toNat]
  rfl

theorem lowBits_add (a b : Word) (ha : a.extractLsb' 0 2 = 0) (hb : b.extractLsb' 0 2 = 0) :
    (a + b).extractLsb' 0 2 = 0 := by
  rw [lowBits_eq_zero_iff] at *
  rw [BitVec.toNat_add]
  omega

theorem lowBits_four_mul (a : Word) : (4 * a).extractLsb' 0 2 = 0 := by
  rw [lowBits_eq_zero_iff, BitVec.toNat_mul, show (4 : Word).toNat = 4 from rfl]
  omega

theorem lowBits_maskAddr (s : State) (a : Word) (h : a.extractLsb' 0 2 = 0) :
    (s.maskAddr a).extractLsb' 0 2 = 0 := by
  unfold State.maskAddr
  split
  · rw [BitVec.extractLsb'_and, h]
    exact BitVec.zero_and
  · exact h

/-- WRPR clears the two low bits of TPC and TNPC (R297). -/
theorem lowBits_and_not_three (v : Word) : (v &&& ~~~3#64).extractLsb' 0 2 = 0 := by
  rw [BitVec.extractLsb'_and]
  exact BitVec.and_zero

theorem lowBits_branchTarget (s : State) {w : Nat} (disp : BitVec w)
    (hpc : s.pc.extractLsb' 0 2 = 0) : (s.branchTarget disp).extractLsb' 0 2 = 0 :=
  lowBits_maskAddr _ _ (lowBits_add _ _ hpc (lowBits_four_mul _))

/-- Every row of the table of R161 goes on at multiples of 4. -/
theorem lowBits_branchPcs (kind : BranchKind) (annul taken : Bool) (npc T : Word)
    (hn : npc.extractLsb' 0 2 = 0) (hT : T.extractLsb' 0 2 = 0) :
    (branchPcs kind annul taken npc T).1.extractLsb' 0 2 = 0 ∧
      (branchPcs kind annul taken npc T).2.extractLsb' 0 2 = 0 := by
  have hn4 := lowBits_add npc 4 hn rfl
  have hn8 := lowBits_add npc 8 hn rfl
  have hT4 := lowBits_add T 4 hT rfl
  unfold branchPcs
  split <;> constructor <;> assumption

theorem lowBits_trapVector (tba : Word) (tl : BitVec 3) (tt : BitVec 9) :
    (trapVector tba tl tt).extractLsb' 0 2 = 0 := by
  unfold trapVector
  rw [BitVec.extractLsb'_append_eq_of_add_le (by omega)]
  rfl

/-- The offsets of the RED_state vectors are multiples of 32 (R420). -/
theorem lowBits_redVectorAddr (p : Params) (e : Exc) :
    (redVectorAddr p e.redVector).extractLsb' 0 2 = 0 := by
  have hoffset : e.redVector.extractLsb' 0 2 = 0 := by
    unfold Exc.redVector
    split <;> rfl
  unfold redVectorAddr
  rw [BitVec.extractLsb'_append_eq_of_add_le (by omega), hoffset]

/-! ### PSTATE (R37, R38) -/

theorem mm_pstateMask (p : Params) : (pstateMask p).extractLsb' 6 2 = 3 := by
  unfold pstateMask
  rw [BitVec.extractLsb'_append_eq_of_add_le (by omega)]
  rfl

/-- MM is implemented: the mask of the implemented bits leaves it. -/
theorem mm_and_pstateMask (v : BitVec 12) (p : Params) :
    (v &&& pstateMask p).extractLsb' 6 2 = v.extractLsb' 6 2 := by
  rw [BitVec.extractLsb'_and, mm_pstateMask]
  exact BitVec.and_allOnes

theorem mm_trapPstate (v : BitVec 12) : (trapPstate v).extractLsb' 6 2 = v.extractLsb' 6 2 := by
  unfold trapPstate
  rw [BitVec.extractLsb'_append_eq_of_le (by omega),
    BitVec.extractLsb'_append_eq_of_add_le (by omega)]
  exact BitVec.extractLsb'_eq_self

theorem mm_redPstate (v : BitVec 12) (tle : Bool) (pid : BitVec 2) :
    (redPstate v tle pid).extractLsb' 6 2 = 0 := by
  unfold redPstate
  rw [BitVec.extractLsb'_append_eq_of_le (by omega),
    BitVec.extractLsb'_append_eq_of_add_le (by omega)]
  exact BitVec.extractLsb'_eq_self

/-- Only PID1 and PID0 can be unimplemented (R38, D4). -/
theorem and_pstateMask_eq_self_iff (v : BitVec 12) (p : Params) :
    v &&& pstateMask p = v ↔
      v.extractLsb' 10 2 &&& (BitVec.ofBool p.pid1 ++ BitVec.ofBool p.pid0) = v.extractLsb' 10 2 := by
  have hsplit : v = (v.extractLsb' 10 2 ++ v.extractLsb' 0 10 : BitVec 12) := by
    have happend : (v.extractLsb' 10 2 ++ v.extractLsb' 0 10 : BitVec 12) = v.extractLsb' 0 12 :=
      BitVec.extractLsb'_append_extractLsb'_eq_extractLsb' (len₁ := 10) (len₂ := 2) rfl
    rw [happend, BitVec.extractLsb'_eq_self]
  constructor
  · intro h
    have h := congrArg (BitVec.extractLsb' 10 2) h
    unfold pstateMask at h
    rwa [BitVec.extractLsb'_and, BitVec.extractLsb'_append_eq_of_le (by omega),
      BitVec.extractLsb'_eq_self] at h
  · intro h
    calc v &&& pstateMask p
        = (v.extractLsb' 10 2 ++ v.extractLsb' 0 10 : BitVec 12) &&& pstateMask p := by rw [← hsplit]
      _ = (v.extractLsb' 10 2 ++ v.extractLsb' 0 10 : BitVec 12) := by
          unfold pstateMask
          rw [BitVec.and_append, h]
          exact congrArg _ BitVec.and_allOnes
      _ = v := hsplit.symm

/-- A normal trap leaves PID1 and PID0, so the unimplemented bits stay zero (R372). -/
theorem trapPstate_and_pstateMask (v : BitVec 12) (p : Params) (h : v &&& pstateMask p = v) :
    trapPstate v &&& pstateMask p = trapPstate v := by
  have hpid : (trapPstate v).extractLsb' 10 2 = v.extractLsb' 10 2 := by
    unfold trapPstate
    repeat rw [BitVec.extractLsb'_append_eq_of_le (by omega)]
    exact BitVec.extractLsb'_eq_self
  rw [and_pstateMask_eq_self_iff] at h ⊢
  rw [hpid, h]

theorem and_pstateMask_idem (v : BitVec 12) (p : Params) :
    v &&& pstateMask p &&& pstateMask p = v &&& pstateMask p := by
  rw [BitVec.and_assoc, BitVec.and_self]

/-! ### TSTATE (R40, R41) -/

@[simp] theorem tstateCcr_packTstate (p : Params) (ccr asi : BitVec 8) (ps : BitVec 12)
    (cwp : BitVec 5) : tstateCcr (packTstate p ccr asi ps cwp) = ccr := by
  unfold tstateCcr packTstate
  repeat rw [BitVec.extractLsb'_append_eq_of_le (by omega)]
  rw [BitVec.extractLsb'_append_eq_of_add_le (by omega)]
  exact BitVec.extractLsb'_eq_self

@[simp] theorem tstateAsi_packTstate (p : Params) (ccr asi : BitVec 8) (ps : BitVec 12)
    (cwp : BitVec 5) : tstateAsi (packTstate p ccr asi ps cwp) = asi := by
  unfold tstateAsi packTstate
  repeat rw [BitVec.extractLsb'_append_eq_of_le (by omega)]
  rw [BitVec.extractLsb'_append_eq_of_add_le (by omega)]
  exact BitVec.extractLsb'_eq_self

@[simp] theorem tstatePstate_packTstate (p : Params) (ccr asi : BitVec 8) (ps : BitVec 12)
    (cwp : BitVec 5) : tstatePstate (packTstate p ccr asi ps cwp) = ps &&& pstateMask p := by
  unfold tstatePstate packTstate
  repeat rw [BitVec.extractLsb'_append_eq_of_le (by omega)]
  rw [BitVec.extractLsb'_append_eq_of_add_le (by omega)]
  exact BitVec.extractLsb'_eq_self

@[simp] theorem tstateCwp_packTstate (p : Params) (ccr asi : BitVec 8) (ps : BitVec 12)
    (cwp : BitVec 5) : tstateCwp (packTstate p ccr asi ps cwp) = cwp := by
  unfold tstateCwp packTstate
  rw [BitVec.extractLsb'_append_eq_of_add_le (by omega)]
  exact BitVec.extractLsb'_eq_self

/-- What is packed into TSTATE holds nothing outside its fields. -/
theorem tstateFields_packTstate (p : Params) (ccr asi : BitVec 8) (ps : BitVec 12)
    (cwp : BitVec 5) :
    tstateFields p (packTstate p ccr asi ps cwp) = packTstate p ccr asi ps cwp := by
  simp only [tstateFields, tstateCcr_packTstate, tstateAsi_packTstate, tstatePstate_packTstate,
    tstateCwp_packTstate]
  simp only [packTstate, and_pstateMask_idem]

/-! ### TBA (R43) -/

/-- WRPR clears the low bits of TBA (R297). -/
theorem tba_and_not_low (v : Word) : (v &&& ~~~0x7FFF#64).extractLsb' 0 15 = 0 := by
  rw [BitVec.extractLsb'_and]
  exact BitVec.and_zero

/-! ### The zero bits of FSR (R35) -/

theorem and_and_eq_zero {n : Nat} (x y z : BitVec n) (h : x &&& z = 0) : x &&& y &&& z = 0 := by
  rw [BitVec.and_assoc, BitVec.and_comm y, ← BitVec.and_assoc, h]
  exact BitVec.zero_and

/-- Bits that are zero in a vector and that a field does not reach stay zero. -/
theorem putField_and_eq_zero {n w : Nat} (v : BitVec n) (lo : Nat) (x : BitVec w) (z : BitVec n)
    (hv : v &&& z = 0) (hx : x.setWidth n <<< lo &&& z = 0) : putField v lo x &&& z = 0 := by
  unfold putField
  rw [BitVec.and_or_distrib_right, hx, and_and_eq_zero _ _ _ hv]
  exact BitVec.or_zero

theorem fsrPutCexc_zeroBits (v : Word) (x : BitVec 5) (h : v &&& fsrZeroBits = 0) :
    fsrPutCexc v x &&& fsrZeroBits = 0 := by
  have hx : ∀ x : BitVec 5, x.setWidth 64 <<< 0 &&& fsrZeroBits = 0 := by decide
  exact putField_and_eq_zero _ _ _ _ h (hx x)

theorem fsrPutFtt_zeroBits (v : Word) (x : BitVec 3) (h : v &&& fsrZeroBits = 0) :
    fsrPutFtt v x &&& fsrZeroBits = 0 := by
  have hx : ∀ x : BitVec 3, x.setWidth 64 <<< 14 &&& fsrZeroBits = 0 := by decide
  exact putField_and_eq_zero _ _ _ _ h (hx x)

theorem fsrZeroBits_eq : fsrZeroBits = (0xFFFFFFC0#32 ++ 0x30303000#32 : BitVec 64) := rfl

/-- The low half of FSR after a load: of the zero bits the load mask names none and keeps qne. -/
theorem fsrLoadLow_zeroBits (v : Word) (w : BitVec 32) (h : v &&& fsrZeroBits = 0) :
    (w &&& fsrLoadMaskLow ||| v.extractLsb' 0 32 &&& fsrKeepMaskLow) &&& 0x30303000#32 = 0 := by
  have hold : v.extractLsb' 0 32 &&& 0x30303000#32 = 0 := by
    have h := congrArg (BitVec.extractLsb' 0 32) h
    rwa [BitVec.extractLsb'_and] at h
  have hnew : w &&& fsrLoadMaskLow &&& 0x30303000#32 = 0 := by
    rw [BitVec.and_assoc]
    exact BitVec.and_zero
  rw [BitVec.and_or_distrib_right, and_and_eq_zero _ _ _ hold, hnew]
  exact BitVec.or_zero

/-- LDFSR leaves the upper half of FSR (R243). -/
theorem fsrAfterLoadWord_zeroBits (v : Word) (w : BitVec 32) (h : v &&& fsrZeroBits = 0) :
    fsrAfterLoadWord v w &&& fsrZeroBits = 0 := by
  have hhigh : v.extractLsb' 32 32 &&& 0xFFFFFFC0#32 = 0 := by
    have h := congrArg (BitVec.extractLsb' 32 32) h
    rwa [BitVec.extractLsb'_and] at h
  unfold fsrAfterLoadWord
  rw [fsrZeroBits_eq, BitVec.and_append, hhigh, fsrLoadLow_zeroBits v w h]
  rfl

/-- LDXFSR writes bits 37:32 and clears bits 63:38 (R244, R4). -/
theorem fsrAfterLoadExtended_zeroBits (v d : Word) (h : v &&& fsrZeroBits = 0) :
    fsrAfterLoadExtended v d &&& fsrZeroBits = 0 := by
  have hhigh : (0#26 ++ d.extractLsb' 32 6 : BitVec 32) &&& 0xFFFFFFC0#32 = 0 := by
    rw [show 0xFFFFFFC0#32 = (0x3FFFFFF#26 ++ 0#6 : BitVec 32) from rfl, BitVec.and_append,
      BitVec.and_zero]
    rfl
  unfold fsrAfterLoadExtended
  rw [fsrZeroBits_eq, BitVec.and_append, hhigh, fsrLoadLow_zeroBits v _ h]
  rfl

/-! ### The window registers (R44, R45, R318) -/

theorem windowPlus_lt (p : Params) (w : BitVec 5) (n : Nat) (hp : p.wf) :
    (windowPlus p w n).toNat < p.nwindows := by
  obtain ⟨hlow, -⟩ := hp
  unfold windowPlus
  rw [BitVec.toNat_ofNat]
  exact lt_of_le_of_lt (Nat.mod_le _ _) (Nat.mod_lt _ (by omega))

theorem trapCwp_lt (e : Exc) (s : State) (hp : s.params.wf) (h : s.cwp.toNat < s.params.nwindows) :
    (trapCwp e s).toNat < s.params.nwindows := by
  unfold trapCwp
  split
  case h_6 => exact h
  all_goals exact windowPlus_lt _ _ _ hp

theorem winreg_succ_lt (p : Params) (r : BitVec 5) (hp : p.wf) (h : r.toNat + 1 ≤ p.nwindows - 1) :
    (r + 1).toNat < p.nwindows := by
  obtain ⟨hlow, -⟩ := hp
  rw [BitVec.toNat_add, show (1 : BitVec 5).toNat = 1 from rfl]
  exact lt_of_le_of_lt (Nat.mod_le _ _) (by omega)

theorem winreg_pred_lt (p : Params) (r : BitVec 5) (h0 : r ≠ 0) (h : r.toNat < p.nwindows) :
    (r - 1).toNat < p.nwindows := by
  have hpos : r.toNat ≠ 0 := fun hr => h0 (BitVec.eq_of_toNat_eq hr)
  have hlt := r.isLt
  rw [BitVec.toNat_sub, show (1 : BitVec 5).toNat = 1 from rfl]
  omega

theorem restoredCleanwin_lt (s : State) (hp : s.params.wf)
    (h : s.cleanwin.toNat < s.params.nwindows) :
    s.restoredCleanwin.toNat < s.params.nwindows := by
  unfold State.restoredCleanwin
  split
  · exact winreg_succ_lt _ _ hp (by omega)
  · exact h

/-- What a write stores in a window register is in range (R45). -/
theorem winregWrite_lt (p : Params) (v : Word) (x : BitVec 5) (hp : p.wf)
    (h : winregWrite p v = some x) : x.toNat < p.nwindows := by
  obtain ⟨hlow, -⟩ := hp
  unfold winregWrite at h
  dsimp only at h
  split at h
  · cases h
  · obtain rfl := Option.some.inj h
    rw [BitVec.toNat_and]
    exact lt_of_le_of_lt Nat.and_le_left (by omega)

/-! ### Aligned accesses -/

/-- The bytes of an aligned access lie inside the address space. -/
theorem aligned_access_fits (a : Word) (n : Nat) (hn : n = 1 ∨ n = 2 ∨ n = 4 ∨ n = 8)
    (ha : a.toNat % n = 0) : a.toNat + n ≤ 2 ^ 64 := by
  have := a.isLt
  rcases hn with rfl | rfl | rfl | rfl <;> omega

/-! ### Legal trap stack entries -/

/-- What a legal state asks of one level of the trap stack (R40, R41, R297). -/
def TrapRegs.Legal (p : Params) (r : TrapRegs) : Prop :=
  r.tpc.extractLsb' 0 2 = 0 ∧ r.tnpc.extractLsb' 0 2 = 0 ∧ tstateFields p r.tstate = r.tstate

theorem State.Legal.trapRegs {s : State} (h : s.Legal) (l : BitVec 3) :
    (s.trapRegs l).Legal s.params := ⟨h.tpc l, h.tnpc l, h.tstate l⟩

theorem State.trapRegs_setTrapRegs (s : State) (l n : BitVec 3) (r : TrapRegs) :
    (s.setTrapRegs l r).trapRegs n = if l = n then r else s.trapRegs n := by
  have hindex : tlIndex l = tlIndex n ↔ l = n :=
    ⟨fun h => BitVec.eq_of_toNat_eq (congrArg Fin.val h), congrArg tlIndex⟩
  show (s.trapStack.set (tlIndex l) r).get (tlIndex n) = _
  simp only [vector_get_set, hindex]
  rfl

/-- A legal entry may replace any level of the trap stack. -/
theorem State.Legal.setTrapRegs {s : State} (h : s.Legal) (l : BitVec 3) {r : TrapRegs}
    (hr : r.Legal s.params) : (s.setTrapRegs l r).Legal := by
  have hlevel (n : BitVec 3) : ((s.setTrapRegs l r).trapRegs n).Legal s.params := by
    rw [State.trapRegs_setTrapRegs]
    split
    · exact hr
    · exact h.trapRegs n
  exact { h with
    tpc := fun n => (hlevel n).1
    tnpc := fun n => (hlevel n).2.1
    tstate := fun n => (hlevel n).2.2 }

/-- What a trap saves of a legal state is legal (R372). -/
theorem State.Legal.trapFrame {s : State} (h : s.Legal) (e : Exc) :
    (trapFrame e s).Legal s.params :=
  ⟨lowBits_maskAddr _ _ h.pc, lowBits_maskAddr _ _ h.npc, tstateFields_packTstate ..⟩

/-! ### What keeps a state legal: the updates that instructions are made of -/

theorem State.Legal.advance {s : State} (h : s.Legal) : s.advance.Legal :=
  { h with pc := h.npc, npc := lowBits_add _ _ h.npc rfl }

theorem State.Legal.setPcs {s : State} (h : s.Legal) {pc npc : Word}
    (hpc : pc.extractLsb' 0 2 = 0) (hnpc : npc.extractLsb' 0 2 = 0) : (s.setPcs pc npc).Legal :=
  { h with pc := hpc, npc := hnpc }

theorem State.Legal.withFsr {s : State} (h : s.Legal) {fsr : Word} (hf : fsr &&& fsrZeroBits = 0) :
    State.Legal { s with fsr := fsr } := { h with fsr := hf }

theorem State.Legal.writeReg {s : State} (h : s.Legal) (r : Reg) (v : Word) :
    (s.writeReg r v).Legal := by
  rw [State.writeReg_frame]
  exact { h with }

theorem State.Legal.copyF {s : State} (h : s.Legal) (size : FpSize) (rd rs2 : Reg) :
    (s.copyF size rd rs2).Legal := by
  rw [State.copyF_frame]
  exact { h with }

theorem State.Legal.loadPair {s : State} (h : s.Legal) (asi : BitVec 8) (a : Word) (rd : Reg) :
    (s.loadPair asi a rd).Legal := (h.writeReg _ _).writeReg _ _

theorem State.Legal.setFWord {s : State} (h : s.Legal) (n : BitVec 6) (v : BitVec 32) :
    (s.setFWord n v).Legal := { h with }

theorem State.Legal.setF64 {s : State} (h : s.Legal) (n : BitVec 6) (v : BitVec 64) :
    (s.setF64 n v).Legal := (h.setFWord _ _).setFWord _ _

theorem State.Legal.setF128 {s : State} (h : s.Legal) (n : BitVec 6) (v : BitVec 128) :
    (s.setF128 n v).Legal := (((h.setFWord _ _).setFWord _ _).setFWord _ _).setFWord _ _

theorem State.Legal.markDirty {s : State} (h : s.Legal) (n : BitVec 6) : (s.markDirty n).Legal :=
  { h with }

theorem State.Legal.drawTick {s : State} (h : s.Legal) : s.drawTick.Legal := { h with }

theorem State.Legal.clearCexcFtt {s : State} (h : s.Legal) : s.clearCexcFtt.Legal :=
  h.withFsr (fsrPutFtt_zeroBits _ _ (fsrPutCexc_zeroBits _ _ h.fsr))

theorem State.Legal.storeValue {s : State} (h : s.Legal) (asi : BitVec 8) {a : Word} {n : Nat}
    (v : Nat) (hfits : a.toNat + n ≤ 2 ^ 64) : (s.storeValue asi a n v).Legal :=
  { h with mem := writeBytes_wf _ _ _ (by rwa [length_valueBytes]) h.mem }

theorem State.Legal.storePair {s : State} (h : s.Legal) (asi : BitVec 8) {a : Word} (x y : Word)
    (ha : a.toNat % 8 = 0) : (s.storePair asi a x y).Legal := by
  have hfits := aligned_access_fits a 8 (by simp) ha
  have hodd : (a + 4).toNat + 4 ≤ 2 ^ 64 := by
    rw [BitVec.toNat_add, show (4 : Word).toNat = 4 from rfl]
    omega
  exact (h.storeValue _ _ (by omega)).storeValue _ _ hodd

theorem State.Legal.compareAndSwap {s : State} (h : s.Legal) (asi : BitVec 8) {a : Word} {n : Nat}
    (rs2 rd : Reg) (hfits : a.toNat + n ≤ 2 ^ 64) : (compareAndSwap s asi a n rs2 rd).Legal := by
  unfold Machine.compareAndSwap
  refine State.Legal.writeReg ?_ _ _
  split
  · exact h.storeValue _ _ hfits
  · exact h

theorem State.Legal.swapWord {s : State} (h : s.Legal) (asi : BitVec 8) {a : Word} (rd : Reg)
    (hfits : a.toNat + 4 ≤ 2 ^ 64) : (swapWord s asi a rd).Legal :=
  (h.storeValue asi _ hfits).writeReg _ _

/-! ### Taking an exception keeps a state legal -/

theorem State.Legal.recordFp {s : State} (h : s.Legal) (e : Exc) : (recordFp e s).Legal := by
  unfold Machine.recordFp
  split
  · exact h.withFsr (fsrPutFtt_zeroBits _ _ (fsrPutCexc_zeroBits _ _ h.fsr))
  · exact h.withFsr (fsrPutFtt_zeroBits _ _ h.fsr)
  · exact h

/-- Below MAXTL a legal state is not error_state (R361). -/
theorem State.Legal.not_error_below {s : State} (h : s.Legal) (hl : s.tl.toNat < s.params.maxtl) :
    s.errorState ≠ true := fun he => absurd (h.error he) (by omega)

/-- error_state is entered at MAXTL only (R375). -/
theorem State.Legal.enterErrorState {s : State} (h : s.Legal) (hl : s.params.maxtl ≤ s.tl.toNat) :
    s.enterErrorState.Legal := { h with error := fun _ => Nat.le_antisymm h.tl hl }

theorem State.Legal.normalTrap {s : State} (h : s.Legal) (e : Exc)
    (hl : s.tl.toNat < s.params.maxtl) : (normalTrap e s).Legal :=
  have hv := lowBits_trapVector s.tba s.tl e.tt
  { h.setTrapRegs (s.tl + 1) (h.trapFrame e) with
    tl := by
      show (s.tl + 1).toNat ≤ _
      rw [BitVec.toNat_add, show (1 : BitVec 3).toNat = 1 from rfl]
      exact le_trans (Nat.mod_le _ _) hl
    error := fun he => absurd he (h.not_error_below hl)
    pstate := trapPstate_and_pstateMask _ _ h.pstate
    mm := fun hm => h.mm ((mm_trapPstate _).symm.trans hm)
    cwp := trapCwp_lt e s h.params h.cwp
    pc := hv
    npc := lowBits_add _ _ hv rfl }

theorem State.Legal.redTrap {s : State} (h : s.Legal) (e : Exc)
    (hl : s.tl.toNat < s.params.maxtl) : (redTrap e s).Legal :=
  have hv := lowBits_redVectorAddr s.params e
  { h.setTrapRegs (BitVec.ofNat 3 (min (s.tl.toNat + 1) s.params.maxtl)) (h.trapFrame e) with
    tl := by
      show (BitVec.ofNat 3 _).toNat ≤ _
      rw [BitVec.toNat_ofNat]
      exact le_trans (Nat.mod_le _ _) (Nat.min_le_right _ _)
    error := fun he => absurd he (h.not_error_below hl)
    pstate := and_pstateMask_idem _ _
    mm := by
      show BitVec.extractLsb' 6 2 (_ &&& pstateMask s.params) ≠ 3
      rw [mm_and_pstateMask, mm_redPstate]
      decide
    cwp := trapCwp_lt e s h.params h.cwp
    pc := hv
    npc := lowBits_add _ _ hv rfl }

/-- Every trap from a legal state ends in a legal state (R368). -/
theorem State.Legal.takeTrap {s : State} (h : s.Legal) (e : Exc) : (takeTrap e s).Legal := by
  unfold Machine.takeTrap
  split
  case isTrue hl => exact h.enterErrorState hl
  case isFalse hl =>
    have hbelow : (Machine.recordFp e s).tl.toNat < (Machine.recordFp e s).params.maxtl := by
      simpa using hl
    split
    · exact (h.recordFp e).redTrap e hbelow
    · exact (h.recordFp e).normalTrap e hbelow

/-! ### WRPR keeps a state legal (R297) -/

theorem State.Legal.withWinreg {s t : State} (h : s.Legal) (v : Word) (k : BitVec 5 → State)
    (hk : ∀ x : BitVec 5, x.toNat < s.params.nwindows → (k x).Legal)
    (hw : withWinreg s v k = .next t) : t.Legal := by
  unfold Machine.withWinreg at hw
  split at hw
  case h_1 => cases hw
  case h_2 x hx =>
    rw [next_inj hw]
    exact (hk x (winregWrite_lt _ _ _ h.params hx)).advance

/-- A write of a privileged register keeps a state legal. TL is written outside error_state only, as
no instruction runs in it (R375). -/
theorem State.Legal.writePriv {s t : State} (h : s.Legal) (he : s.errorState = false) (n : Reg)
    (v : Word) (hw : s.writePriv n v = .next t) : t.Legal := by
  obtain ⟨htpc, htnpc, htstate⟩ := h.trapRegs s.tl
  unfold State.writePriv at hw
  split at hw
  case h_1 =>
    rw [next_inj hw]
    refine (h.setTrapRegs s.tl ?_).advance
    exact ⟨lowBits_and_not_three v, htnpc, htstate⟩
  case h_2 =>
    rw [next_inj hw]
    refine (h.setTrapRegs s.tl ?_).advance
    exact ⟨htpc, lowBits_and_not_three v, htstate⟩
  case h_3 =>
    rw [next_inj (withReserved_next _ _ _ _ hw).2]
    refine (h.setTrapRegs s.tl ?_).advance
    exact ⟨htpc, htnpc, tstateFields_packTstate ..⟩
  case h_4 =>
    rw [next_inj hw]
    refine (h.setTrapRegs s.tl ?_).advance
    exact ⟨htpc, htnpc, htstate⟩
  case h_6 =>
    rw [next_inj hw]
    exact State.Legal.advance { h with tba := tba_and_not_low v }
  case h_7 =>
    split at hw
    case isTrue => cases hw
    case isFalse hmm =>
      have hfield : (v.extractLsb' 0 12).extractLsb' 6 2 = v.extractLsb' 6 2 :=
        BitVec.extractLsb'_extractLsb'_of_le (by omega)
      rw [next_inj hw]
      exact State.Legal.advance { h with
        pstate := and_pstateMask_idem _ _
        mm := fun hm => hmm (hfield ▸ (mm_and_pstateMask _ _).symm.trans hm) }
  case h_8 =>
    split at hw
    case isTrue => cases hw
    case isFalse htl =>
      rw [next_inj hw]
      exact State.Legal.advance { h with
        tl := Nat.le_of_not_lt htl
        error := fun he' => absurd (he.symm.trans he') Bool.false_ne_true }
  case h_10 =>
    refine h.withWinreg v _ (fun _ hx => ?_) hw
    exact { h with cwp := hx }
  case h_11 =>
    refine h.withWinreg v _ (fun _ hx => ?_) hw
    exact { h with cansave := hx }
  case h_12 =>
    refine h.withWinreg v _ (fun _ hx => ?_) hw
    exact { h with canrestore := hx }
  case h_13 =>
    refine h.withWinreg v _ (fun _ hx => ?_) hw
    exact { h with cleanwin := hx }
  case h_14 =>
    refine h.withWinreg v _ (fun _ hx => ?_) hw
    exact { h with otherwin := hx }
  case h_16 =>
    rw [next_inj hw]
    exact h.takeTrap _
  all_goals
    rw [next_inj hw]
    exact State.Legal.advance { h with }

/-! ### Every instruction, and every step -/

/-- Every next state an instruction can answer from a legal state is legal. -/
theorem State.Legal.effect {i : Instr} {s t : State} (h : s.Legal) (he : s.errorState = false)
    (ht : Effect i s t) : t.Legal := by
  have hp := h.params
  cases ht
  case trap e => exact h.takeTrap e
  case branch disp kind a taken =>
    obtain ⟨hpc, hnpc⟩ :=
      lowBits_branchPcs kind a taken s.npc _ h.npc (lowBits_branchTarget s disp h.pc)
    exact h.setPcs hpc hnpc
  case cas k a n rs2 rd _ _ hn ha =>
    exact (h.compareAndSwap k rs2 rd (aligned_access_fits a n (by omega) ha)).advance
  case swap k a rd _ _ ha =>
    exact (h.swapWord k rd (aligned_access_fits a 4 (by simp) ha)).advance
  case fmove size rd rs2 => exact (h.clearCexcFtt.copyF size rd rs2).advance
  case fstay => exact h.clearCexcFtt.advance
  case loadF32 n m v => exact ((h.setFWord n v).markDirty m).advance
  case loadF64 n m v => exact ((h.setF64 n v).markDirty m).advance
  case loadF128 n m v => exact ((h.setF128 n v).markDirty m).advance
  case loadFsr w => exact (h.withFsr (fsrAfterLoadWord_zeroBits _ w h.fsr)).advance
  case loadXfsr d => exact (h.withFsr (fsrAfterLoadExtended_zeroBits _ d h.fsr)).advance
  case loadPair k a rd => exact (h.loadPair k a rd).advance
  case store k a n v _ _ hn ha =>
    exact (h.storeValue k v (aligned_access_fits a n hn ha)).advance
  case storePair k a x y _ _ ha => exact (h.storePair k x y ha).advance
  case int rd v => exact (h.writeReg rd v).advance
  case nop => exact h.advance
  case tick rd => exact (h.drawTick.writeReg rd _).advance
  case wry v => exact State.Legal.advance { h with }
  case wrccr v => exact State.Legal.advance { h with }
  case wrasi v => exact State.Legal.advance { h with }
  case wrfprs v => exact State.Legal.advance { h with }
  case wrpr n rs1 op2 _ _ _ hw => exact h.writePriv he n _ hw
  case save rd v hs hr =>
    refine (State.Legal.writeReg ?_ rd v).advance
    exact { h with
      cwp := windowPlus_lt _ _ _ hp
      cansave := winreg_pred_lt _ _ hs h.cansave
      canrestore := winreg_succ_lt _ _ hp hr }
  case restore rd v hr hs =>
    refine (State.Legal.writeReg ?_ rd v).advance
    exact { h with
      cwp := windowPlus_lt _ _ _ hp
      cansave := winreg_succ_lt _ _ hp hs
      canrestore := winreg_pred_lt _ _ hr h.canrestore }
  case savedNormal _ hs hr =>
    exact State.Legal.advance { h with
      cansave := winreg_succ_lt _ _ hp hs
      canrestore := winreg_pred_lt _ _ hr h.canrestore }
  case savedOther _ hs ho =>
    exact State.Legal.advance { h with
      cansave := winreg_succ_lt _ _ hp hs
      otherwin := winreg_pred_lt _ _ ho h.otherwin }
  case restoredNormal _ hr hs =>
    exact State.Legal.advance { h with
      canrestore := winreg_succ_lt _ _ hp hr
      cleanwin := restoredCleanwin_lt s hp h.cleanwin
      cansave := winreg_pred_lt _ _ hs h.cansave }
  case restoredOther _ hr ho =>
    exact State.Legal.advance { h with
      canrestore := winreg_succ_lt _ _ hp hr
      cleanwin := restoredCleanwin_lt s hp h.cleanwin
      otherwin := winreg_pred_lt _ _ ho h.otherwin }
  case tadd ccr rd v =>
    refine (State.Legal.writeReg ?_ rd v).advance
    exact { h with }

/-- A step takes a trap or runs an instruction, and does neither in error_state. -/
theorem State.Legal.step {s t : State} (h : s.Legal) (ht : step s = .next t) : t.Legal := by
  obtain ⟨he, ⟨e, rfl⟩ | ⟨i, -, hx⟩⟩ := step_next s t ht
  · exact h.takeTrap e
  · exact h.effect he (exec_effect i s t hx)

/-- Settles O7: each update that an effect of an instruction is made of keeps the state legal. -/
theorem everyStepKeepsTheLegalState : Obligations.EveryStepKeepsTheLegalState := by
  unfold Obligations.EveryStepKeepsTheLegalState
  intro s t h ht
  exact h.step ht

end Sys2Proof.Machine
end

section
/-! SUPPORT. The family 10_state: the state after reset and the register files. -/

namespace Sys2Proof.Machine

open Sys2Proof.Config

/-! ### The state after reset (R58, R423) -/

/-- Settles O8: every field of the state after reset is a literal, so each clause is evaluated. -/
theorem resetStateIsLegal : Obligations.ResetStateIsLegal := by
  unfold Obligations.ResetStateIsLegal
  exact {
    params := by decide
    mem := reset_mem_wf
    pc := by decide
    npc := by decide
    tpc := by decide
    tnpc := by decide
    tstate := by decide
    tl := by decide
    error := by decide
    pstate := by decide
    mm := by decide
    tba := by decide
    cwp := by decide
    cansave := by decide
    canrestore := by decide
    cleanwin := by decide
    otherwin := by decide
    fsr := by decide }

/-! ### Integer registers (R21, R22, R23) -/

/-- Settles O12: reads and writes go through the cell a register names, and different registers name
different cells. -/
theorem integerRegisterFile : Obligations.IntegerRegisterFile := by
  unfold Obligations.IntegerRegisterFile
  intro s r v
  refine ⟨s.readReg_zero, s.writeReg_zero v, s.readReg_writeReg_same r v, ?named, ?others,
    s.writeReg_frame r v, fun r' hp => s.cellOf_ne r r' hp⟩
  case named =>
    intro c hc
    rw [State.readReg_eq, State.cell_writeReg, hc]
    exact ⟨rfl, if_pos rfl⟩
  case others =>
    intro c hc
    rw [State.cell_writeReg, if_neg hc]

/-! ### Register windows (R20, R23) -/

theorem groupIndex_append (g : BitVec 2) (i : BitVec 3) :
    groupIndex (g ++ i : BitVec 5) = ⟨i.toNat, i.isLt⟩ := by
  unfold groupIndex
  simp only [BitVec.extractLsb'_append_eq_right]

/-- The group of a register is given by its two high bits (R20). -/
theorem regGroup_append (g : BitVec 2) (i : BitVec 3) :
    regGroup (g ++ i : BitVec 5) = regGroup (g ++ 0#3 : BitVec 5) := by
  unfold regGroup
  rw [BitVec.extractLsb'_append_eq_left, BitVec.extractLsb'_append_eq_left]

theorem append_ne_zero (g : BitVec 2) (i : BitVec 3) (hg : g ≠ 0) : (g ++ i : BitVec 5) ≠ 0 := by
  intro h
  have := congrArg (BitVec.extractLsb' 3 2) h
  rw [BitVec.extractLsb'_append_eq_left] at this
  exact hg this

/-- The outs are the ins of the window after the current one. -/
theorem State.cellOf_out (s : State) (i : BitVec 3) :
    s.cellOf (0b01#2 ++ i) =
      some (.inn (winIndex (windowPlus s.params s.cwp 1)) ⟨i.toNat, i.isLt⟩) := by
  unfold State.cellOf
  rw [if_neg (append_ne_zero _ i (by decide)), regGroup_append, groupIndex_append]
  rfl

theorem State.cellOf_local (s : State) (i : BitVec 3) :
    s.cellOf (0b10#2 ++ i) = some (.loc (winIndex s.cwp) ⟨i.toNat, i.isLt⟩) := by
  unfold State.cellOf
  rw [if_neg (append_ne_zero _ i (by decide)), regGroup_append, groupIndex_append]
  rfl

theorem State.cellOf_in (s : State) (i : BitVec 3) :
    s.cellOf (0b11#2 ++ i) = some (.inn (winIndex s.cwp) ⟨i.toNat, i.isLt⟩) := by
  unfold State.cellOf
  rw [if_neg (append_ne_zero _ i (by decide)), regGroup_append, groupIndex_append]
  rfl

/-- A register that names a local cell names one of the current window. -/
theorem State.window_of_cellOf_local (s : State) (r : Reg) (w : Fin 32) (i : Fin 8)
    (h : s.cellOf r = some (.loc w i)) : w = winIndex s.cwp := by
  unfold State.cellOf at h
  split at h
  · cases h
  · split at h
    · cases hag : s.ag <;> simp [hag] at h
    · cases h
    · cases h
      rfl
    · cases h

/-- Settles O13: the outs of w and the ins of w + 1 name one cell, and a local cell carries its
window. -/
theorem outsAreTheNextWindowsIns : Obligations.OutsAreTheNextWindowsIns := by
  unfold Obligations.OutsAreTheNextWindowsIns
  intro s w i hp inWindow next out loc inn
  obtain ⟨-, hnext, hne⟩ := windowPlus_one s.params w hp
  have hcell : (inWindow w).cellOf out = (inWindow next).cellOf inn :=
    (State.cellOf_out (inWindow w) i).trans (State.cellOf_in (inWindow next) i).symm
  have hloc : (inWindow w).cellOf loc = some (.loc (winIndex w) ⟨i.toNat, i.isLt⟩) :=
    State.cellOf_local _ i
  refine ⟨hcell, ?read, ?named, ?apart, hnext, hne⟩
  case read =>
    rw [State.readReg_eq, State.readReg_eq, hcell]
    rfl
  case named =>
    rw [hloc]
    exact Option.some_ne_none _
  case apart =>
    intro x hx r h
    rw [hloc] at h
    exact hx (winIndex_inj _ _ (State.window_of_cellOf_local _ r _ _ h.symm)).symm

/-! ### Floating-point registers (R33, R34) -/

/-- F after a write of a double: the high word at n, the low word at n + 1. -/
theorem State.fWord_setF64 (s : State) (n m : BitVec 6) (v : BitVec 64) :
    (s.setF64 n v).fWord m =
      if n + 1 = m then v.extractLsb' 0 32 else if n = m then v.extractLsb' 32 32
      else s.fWord m := by
  simp only [State.setF64, State.fWord_setFWord]

/-- F after a write of a quad: the four words at n to n + 3, the highest at n. -/
theorem State.fWord_setF128 (s : State) (n m : BitVec 6) (v : BitVec 128) :
    (s.setF128 n v).fWord m =
      if n + 3 = m then v.extractLsb' 0 32 else if n + 2 = m then v.extractLsb' 32 32
      else if n + 1 = m then v.extractLsb' 64 32 else if n = m then v.extractLsb' 96 32
      else s.fWord m := by
  simp only [State.setF128, State.fWord_setFWord]

theorem State.f64_setF64 (s : State) (n : BitVec 6) (v : BitVec 64) : (s.setF64 n v).f64 n = v := by
  have hne : n + 1 ≠ n := by simp
  unfold State.f64
  rw [State.fWord_setF64, State.fWord_setF64, if_neg hne, if_pos rfl, if_pos rfl]
  exact (BitVec.extractLsb'_append_extractLsb'_eq_extractLsb' (len₁ := 32) (len₂ := 32) rfl).trans
    BitVec.extractLsb'_eq_self

/-- A quad is the double at n above the double at n + 2. -/
theorem State.f128_eq (s : State) (n : BitVec 6) :
    s.f128 n = (s.f64 n ++ s.f64 (n + 2) : BitVec 128) := by
  have h3 : n + 2 + 1 = n + 3 := BitVec.add_assoc n 2 1
  unfold State.f128 State.f64
  rw [h3]
  exact BitVec.append_assoc

theorem State.f64_setF128_high (s : State) (n : BitVec 6) (v : BitVec 128) :
    (s.setF128 n v).f64 n = v.extractLsb' 64 64 := by
  have h31 : n + 3 ≠ n + 1 := by bv_omega
  have h21 : n + 2 ≠ n + 1 := by bv_omega
  have h30 : n + 3 ≠ n := by bv_omega
  have h20 : n + 2 ≠ n := by bv_omega
  have h10 : n + 1 ≠ n := by bv_omega
  unfold State.f64
  rw [State.fWord_setF128, if_neg h30, if_neg h20, if_neg h10, if_pos rfl,
    State.fWord_setF128, if_neg h31, if_neg h21, if_pos rfl]
  exact BitVec.extractLsb'_append_extractLsb'_eq_extractLsb' (len₁ := 32) (len₂ := 32) rfl

theorem State.f64_setF128_low (s : State) (n : BitVec 6) (v : BitVec 128) :
    (s.setF128 n v).f64 (n + 2) = v.extractLsb' 0 64 := by
  have h32 : n + 3 ≠ n + 2 := by bv_omega
  have h3 : n + 2 + 1 = n + 3 := BitVec.add_assoc n 2 1
  unfold State.f64
  rw [h3, State.fWord_setF128, if_neg h32, if_pos rfl, State.fWord_setF128, if_pos rfl]
  exact BitVec.extractLsb'_append_extractLsb'_eq_extractLsb' (len₁ := 32) (len₂ := 32) rfl

theorem State.f128_setF128 (s : State) (n : BitVec 6) (v : BitVec 128) :
    (s.setF128 n v).f128 n = v := by
  rw [State.f128_eq, State.f64_setF128_high, State.f64_setF128_low]
  exact (BitVec.extractLsb'_append_extractLsb'_eq_extractLsb' (len₁ := 64) (len₂ := 64) rfl).trans
    BitVec.extractLsb'_eq_self

/-- The four words of an aligned quad have the same number but for the two low bits. -/
theorem quad_block (n : BitVec 6) (h : n.extractLsb' 0 2 = 0) :
    (n + 1).extractLsb' 2 4 = n.extractLsb' 2 4 ∧ (n + 2).extractLsb' 2 4 = n.extractLsb' 2 4 ∧
      (n + 3).extractLsb' 2 4 = n.extractLsb' 2 4 := by
  revert n
  decide

theorem State.fWord_setF128_other (s : State) (n m : BitVec 6) (v : BitVec 128)
    (hn : n.extractLsb' 0 2 = 0) (hm : m.extractLsb' 2 4 ≠ n.extractLsb' 2 4) :
    (s.setF128 n v).fWord m = s.fWord m := by
  obtain ⟨h1, h2, h3⟩ := quad_block n hn
  rw [State.fWord_setF128, if_neg, if_neg, if_neg, if_neg] <;> rintro rfl
  · exact hm rfl
  · exact hm h1
  · exact hm h2
  · exact hm h3

theorem singleReg_toNat (field : Reg) : (singleReg field).toNat = field.toNat := by
  revert field
  decide

theorem doubleReg_toNat (field : Reg) :
    (doubleReg field).toNat = 2 * (field.toNat / 2) + 32 * (field.toNat % 2) := by
  revert field
  decide

theorem quadFieldInvalid_eq_false_iff (field : Reg) :
    quadFieldInvalid field = false ↔ (doubleReg field).toNat % 4 = 0 := by
  revert field
  decide

/-- Settles O14: every write of F is writes of its words. -/
theorem floatRegistersAreOneStorage : Obligations.FloatRegistersAreOneStorage := by
  unfold Obligations.FloatRegistersAreOneStorage
  refine ⟨?single, singleReg_toNat, ?double, ?quad,
    fun field => ⟨doubleReg_toNat field, quadFieldInvalid_eq_false_iff field⟩⟩
  case single =>
    intro s n v
    refine ⟨rfl, (s.fWord_setFWord n n v).trans (if_pos rfl), rfl, fun m hm => ?_⟩
    exact (s.fWord_setFWord n m v).trans (if_neg hm.symm)
  case double =>
    intro s n _ v
    refine ⟨rfl, s.f64_setF64 n v, s.setF64_frame n v, fun m hm hm1 => ?_⟩
    rw [State.fWord_setF64, if_neg hm1.symm, if_neg hm.symm]
  case quad =>
    intro s n hn v
    exact ⟨s.f128_eq n, s.f128_setF128 n v, s.setF128_frame n v,
      fun m => s.fWord_setF128_other n m v hn⟩

end Sys2Proof.Machine
end

section
/-! SUPPORT. The family 10_state: how an instruction that is no branch ends (R25, R363). -/

namespace Sys2Proof.Machine

/-! ### Outcomes that trap from the unchanged state or advance both program counters -/

/-- Every next state among the outcomes of an instruction at s is a trap from s, or has
(pc, npc) = (npc, npc + 4). -/
def EndsInOrder (s : State) (r : Res) : Prop :=
  ∀ t, r = .next t → (∃ e, t = takeTrap e s) ∨ (t.pc = s.npc ∧ t.npc = s.npc + 4)

section
variable {s : State}

/-- An update that leaves nPC ends in order when the program counters advance. -/
theorem EndsInOrder.advance (x : State) (h : x.npc = s.npc) :
    EndsInOrder s (.next x.advance) := by
  intro t ht
  rw [next_inj ht, State.advance_pc, State.advance_npc, h]
  exact .inr ⟨rfl, rfl⟩

theorem EndsInOrder.fault (f : Fault) : EndsInOrder s (.fault f) := fun _ h => nomatch h

theorem EndsInOrder.refused (r : Refusal) : EndsInOrder s (.refused r) := fun _ h => nomatch h

theorem EndsInOrder.raise (e : Exc) : EndsInOrder s (raise e s) :=
  fun _ h => .inl ⟨e, next_inj h⟩

theorem EndsInOrder.raiseFirst (cs : List (Bool × Exc)) {k : Res} (h : EndsInOrder s k) :
    EndsInOrder s (raiseFirst s cs k) := by
  intro t ht
  rcases raiseFirst_next _ _ _ _ ht with htrap | ⟨-, hk⟩
  · exact .inl htrap
  · exact h t hk

theorem EndsInOrder.withLoad (a : Word) (n : Nat) {k : Res} (h : EndsInOrder s k) :
    EndsInOrder s (withLoad s a n k) := fun t ht => h t (withLoad_next _ _ _ _ _ ht).2

theorem EndsInOrder.withStore (a : Word) (n : Nat) {k : Res} (h : EndsInOrder s k) :
    EndsInOrder s (withStore s a n k) := fun t ht => h t (withStore_next _ _ _ _ _ ht).2.2

theorem EndsInOrder.withReserved (r v : Word) {k : Res} (h : EndsInOrder s k) :
    EndsInOrder s (withReserved r v k) := fun t ht => h t (withReserved_next _ _ _ _ ht).2

theorem EndsInOrder.ite (c : Prop) [Decidable c] {k k' : Res} (h : EndsInOrder s k)
    (h' : EndsInOrder s k') : EndsInOrder s (if c then k else k') := by
  split
  · exact h
  · exact h'

theorem EndsInOrder.writeAndAdvance (x : State) (rd : Reg) (v : Word) (h : x.npc = s.npc) :
    EndsInOrder s (writeAndAdvance x rd v) := .advance _ ((x.writeReg_npc rd v).trans h)

theorem EndsInOrder.withWinreg (v : Word) (k : BitVec 5 → State) (h : ∀ x, (k x).npc = s.npc) :
    EndsInOrder s (withWinreg s v k) := by
  unfold Machine.withWinreg
  split
  · exact .fault _
  · exact .advance _ (h _)

end

/-! ### The families of instructions -/

theorem compareAndSwap_npc (s : State) (asi : BitVec 8) (a : Word) (n : Nat) (rs2 rd : Reg) :
    (compareAndSwap s asi a n rs2 rd).npc = s.npc := by
  unfold compareAndSwap
  rw [State.writeReg_npc]
  split <;> rfl

theorem casN_endsInOrder (n : Nat) (rd rs1 : Reg) (asi : CasAsi) (rs2 : Reg) (s : State) :
    EndsInOrder s (casN n rd rs1 asi rs2 s) :=
  .raiseFirst _ (.withStore _ _ (.advance _ (compareAndSwap_npc ..)))

theorem fmov_endsInOrder (size : FpSize) (moves : Bool) (rd rs2 : Reg) (s : State) :
    EndsInOrder s (fmov size moves rd rs2 s) := by
  refine .raiseFirst _ ?_
  cases moves
  · exact .advance _ rfl
  · exact .advance _ (State.copyF_npc ..)

theorem movr_endsInOrder (c : RCond) (rd rs1 : Reg) (v : MovrOperand) (s : State) :
    EndsInOrder s (movr c rd rs1 v s) := by
  unfold movr
  split
  · exact .advance _ (State.writeReg_npc ..)
  · exact .advance _ rfl

theorem storeN_endsInOrder (n : Nat) (rd rs1 : Reg) (op2 : Operand2) (s : State) :
    EndsInOrder s (storeN n rd rs1 op2 s) := .raiseFirst _ (.withStore _ _ (.advance _ rfl))

theorem storeAltN_endsInOrder (n : Nat) (rd rs1 : Reg) (alt : AltOperand) (s : State) :
    EndsInOrder s (storeAltN n rd rs1 alt s) := .raiseFirst _ (.withStore _ _ (.advance _ rfl))

theorem execLdqf_endsInOrder (rd rs1 : Reg) (op2 : Operand2) (s : State) :
    EndsInOrder s (execLdqf rd rs1 op2 s) :=
  .raiseFirst _ (.ite _ (.refused _) (.withLoad _ _ (.advance _
    ((State.markDirty_npc ..).trans (State.setF128_npc ..)))))

theorem execSave_endsInOrder (rd rs1 : Reg) (op2 : Operand2) (s : State) :
    EndsInOrder s (execSave rd rs1 op2 s) := by
  refine .raiseFirst _ ?_
  split
  · exact .fault _
  · exact .advance _ (State.writeReg_npc ..)

theorem execRestore_endsInOrder (rd rs1 : Reg) (op2 : Operand2) (s : State) :
    EndsInOrder s (execRestore rd rs1 op2 s) := by
  refine .raiseFirst _ ?_
  split
  · exact .fault _
  · exact .advance _ (State.writeReg_npc ..)

theorem execSaved_endsInOrder (s : State) : EndsInOrder s (execSaved s) := by
  refine .raiseFirst _ ?_
  split
  · exact .advance _ (by split <;> rfl)
  · exact .fault _

theorem execRestored_endsInOrder (s : State) : EndsInOrder s (execRestored s) := by
  refine .raiseFirst _ ?_
  split
  · exact .advance _ (by split <;> rfl)
  · exact .fault _

theorem privRead_npc (s : State) (n : Reg) : (s.privRead n).npc = s.npc := by
  unfold State.privRead
  split <;> rfl

theorem writePriv_endsInOrder (n : Reg) (v : Word) (s : State) :
    EndsInOrder s (s.writePriv n v) := by
  unfold State.writePriv
  split
  case h_3 => exact .withReserved _ _ (.advance _ rfl)
  case h_7 | h_8 => exact .ite _ (.refused _) (.advance _ rfl)
  case h_10 | h_11 | h_12 | h_13 | h_14 => exact .withWinreg _ _ fun _ => rfl
  case h_16 => exact .raise _
  all_goals exact .advance _ rfl

/-! ### The rows that are branches -/

theorem isBranchInstr_bicc (c : ICond) (a : Bool) (d : BitVec 22) :
    isBranchInstr (mkBicc c a d) := .inl ⟨c, a, d, rfl⟩

theorem isBranchInstr_bpcc (c : ICond) (a : Bool) (cc : CcSel) (p : Bool) (d : BitVec 19) :
    isBranchInstr (mkBpcc c a cc p d) := .inr (.inl ⟨c, a, cc, p, d, rfl⟩)

theorem isBranchInstr_bpr (c : RCond) (a p : Bool) (r : Reg) (d : BitVec 16) :
    isBranchInstr (mkBpr c a p r d) := .inr (.inr (.inl ⟨c, a, p, r, d, rfl⟩))

theorem isBranchInstr_fbfcc (c : FCond) (a : Bool) (d : BitVec 22) :
    isBranchInstr (mkFbfcc c a d) := .inr (.inr (.inr (.inl ⟨c, a, d, rfl⟩)))

theorem isBranchInstr_fbpfcc (c : FCond) (a : Bool) (cc : FccSel) (p : Bool) (d : BitVec 19) :
    isBranchInstr (mkFbpfcc c a cc p d) := .inr (.inr (.inr (.inr ⟨c, a, cc, p, d, rfl⟩)))

/-! ### Every instruction -/

/-- An instruction that is no branch traps from the unchanged state or advances. -/
theorem exec_endsInOrder (i : Instr) (s : State) (hb : ¬ isBranchInstr i) :
    EndsInOrder s (exec i s) := by
  cases i
  case bn => exact absurd (isBranchInstr_bicc .n _ _) hb
  case be => exact absurd (isBranchInstr_bicc .e _ _) hb
  case ble => exact absurd (isBranchInstr_bicc .le _ _) hb
  case bl => exact absurd (isBranchInstr_bicc .l _ _) hb
  case bleu => exact absurd (isBranchInstr_bicc .leu _ _) hb
  case bcs => exact absurd (isBranchInstr_bicc .cs _ _) hb
  case bneg => exact absurd (isBranchInstr_bicc .neg _ _) hb
  case bvs => exact absurd (isBranchInstr_bicc .vs _ _) hb
  case ba => exact absurd (isBranchInstr_bicc .a _ _) hb
  case bne => exact absurd (isBranchInstr_bicc .ne _ _) hb
  case bg => exact absurd (isBranchInstr_bicc .g _ _) hb
  case bge => exact absurd (isBranchInstr_bicc .ge _ _) hb
  case bgu => exact absurd (isBranchInstr_bicc .gu _ _) hb
  case bcc => exact absurd (isBranchInstr_bicc .cc _ _) hb
  case bpos => exact absurd (isBranchInstr_bicc .pos _ _) hb
  case bvc => exact absurd (isBranchInstr_bicc .vc _ _) hb
  case bpn => exact absurd (isBranchInstr_bpcc .n _ _ _ _) hb
  case bpe => exact absurd (isBranchInstr_bpcc .e _ _ _ _) hb
  case bple => exact absurd (isBranchInstr_bpcc .le _ _ _ _) hb
  case bpl => exact absurd (isBranchInstr_bpcc .l _ _ _ _) hb
  case bpleu => exact absurd (isBranchInstr_bpcc .leu _ _ _ _) hb
  case bpcs => exact absurd (isBranchInstr_bpcc .cs _ _ _ _) hb
  case bpneg => exact absurd (isBranchInstr_bpcc .neg _ _ _ _) hb
  case bpvs => exact absurd (isBranchInstr_bpcc .vs _ _ _ _) hb
  case bpa => exact absurd (isBranchInstr_bpcc .a _ _ _ _) hb
  case bpne => exact absurd (isBranchInstr_bpcc .ne _ _ _ _) hb
  case bpg => exact absurd (isBranchInstr_bpcc .g _ _ _ _) hb
  case bpge => exact absurd (isBranchInstr_bpcc .ge _ _ _ _) hb
  case bpgu => exact absurd (isBranchInstr_bpcc .gu _ _ _ _) hb
  case bpcc => exact absurd (isBranchInstr_bpcc .cc _ _ _ _) hb
  case bppos => exact absurd (isBranchInstr_bpcc .pos _ _ _ _) hb
  case bpvc => exact absurd (isBranchInstr_bpcc .vc _ _ _ _) hb
  case brz => exact absurd (isBranchInstr_bpr .z _ _ _ _) hb
  case brlez => exact absurd (isBranchInstr_bpr .lez _ _ _ _) hb
  case brlz => exact absurd (isBranchInstr_bpr .lz _ _ _ _) hb
  case brnz => exact absurd (isBranchInstr_bpr .nz _ _ _ _) hb
  case brgz => exact absurd (isBranchInstr_bpr .gz _ _ _ _) hb
  case brgez => exact absurd (isBranchInstr_bpr .gez _ _ _ _) hb
  case fbn => exact absurd (isBranchInstr_fbfcc .n _ _) hb
  case fbne => exact absurd (isBranchInstr_fbfcc .ne _ _) hb
  case fblg => exact absurd (isBranchInstr_fbfcc .lg _ _) hb
  case fbul => exact absurd (isBranchInstr_fbfcc .ul _ _) hb
  case fbl => exact absurd (isBranchInstr_fbfcc .l _ _) hb
  case fbug => exact absurd (isBranchInstr_fbfcc .ug _ _) hb
  case fbg => exact absurd (isBranchInstr_fbfcc .g _ _) hb
  case fbu => exact absurd (isBranchInstr_fbfcc .u _ _) hb
  case fba => exact absurd (isBranchInstr_fbfcc .a _ _) hb
  case fbe => exact absurd (isBranchInstr_fbfcc .e _ _) hb
  case fbue => exact absurd (isBranchInstr_fbfcc .ue _ _) hb
  case fbge => exact absurd (isBranchInstr_fbfcc .ge _ _) hb
  case fbuge => exact absurd (isBranchInstr_fbfcc .uge _ _) hb
  case fble => exact absurd (isBranchInstr_fbfcc .le _ _) hb
  case fbule => exact absurd (isBranchInstr_fbfcc .ule _ _) hb
  case fbo => exact absurd (isBranchInstr_fbfcc .o _ _) hb
  case fbpn => exact absurd (isBranchInstr_fbpfcc .n _ _ _ _) hb
  case fbpne => exact absurd (isBranchInstr_fbpfcc .ne _ _ _ _) hb
  case fbplg => exact absurd (isBranchInstr_fbpfcc .lg _ _ _ _) hb
  case fbpul => exact absurd (isBranchInstr_fbpfcc .ul _ _ _ _) hb
  case fbpl => exact absurd (isBranchInstr_fbpfcc .l _ _ _ _) hb
  case fbpug => exact absurd (isBranchInstr_fbpfcc .ug _ _ _ _) hb
  case fbpg => exact absurd (isBranchInstr_fbpfcc .g _ _ _ _) hb
  case fbpu => exact absurd (isBranchInstr_fbpfcc .u _ _ _ _) hb
  case fbpa => exact absurd (isBranchInstr_fbpfcc .a _ _ _ _) hb
  case fbpe => exact absurd (isBranchInstr_fbpfcc .e _ _ _ _) hb
  case fbpue => exact absurd (isBranchInstr_fbpfcc .ue _ _ _ _) hb
  case fbpge => exact absurd (isBranchInstr_fbpfcc .ge _ _ _ _) hb
  case fbpuge => exact absurd (isBranchInstr_fbpfcc .uge _ _ _ _) hb
  case fbple => exact absurd (isBranchInstr_fbpfcc .le _ _ _ _) hb
  case fbpule => exact absurd (isBranchInstr_fbpfcc .ule _ _ _ _) hb
  case fbpo => exact absurd (isBranchInstr_fbpfcc .o _ _ _ _) hb
  case nop => exact .advance _ rfl
  case casa | casxa => exact casN_endsInOrder _ _ _ _ _ s
  case swap => exact .raiseFirst _ (.withStore _ _ (.advance _ (State.writeReg_npc ..)))
  case fmovscc_fcc0 | fmovscc_fcc1 | fmovscc_fcc2 | fmovscc_fcc3 | fmovscc_icc | fmovscc_xcc |
      fmovdcc_fcc0 | fmovdcc_fcc1 | fmovdcc_fcc2 | fmovdcc_fcc3 | fmovdcc_icc | fmovdcc_xcc |
      fmovqcc_fcc0 | fmovqcc_fcc1 | fmovqcc_fcc2 | fmovqcc_fcc3 | fmovqcc_icc | fmovqcc_xcc |
      fmovrsz | fmovrslez | fmovrslz | fmovrsnz | fmovrsgz | fmovrsgez | fmovrdz | fmovrdlez |
      fmovrdlz | fmovrdnz | fmovrdgz | fmovrdgez | fmovrqz | fmovrqlez | fmovrqlz | fmovrqnz |
      fmovrqgz | fmovrqgez =>
    exact fmov_endsInOrder _ _ _ _ s
  case movrz | movrlez | movrlz | movrnz | movrgz | movrgez => exact movr_endsInOrder _ _ _ _ s
  case ldf | lddf => exact .raiseFirst _ (.withLoad _ _ (.advance _ rfl))
  case ldqf => exact execLdqf_endsInOrder _ _ _ s
  case ldfsr | ldxfsr =>
    exact .raiseFirst _ (.withLoad _ _ (.withReserved _ _ (.advance _ rfl)))
  case ldd | ldda => exact .raiseFirst _ (.withLoad _ _ (.advance _ (State.loadPair_npc ..)))
  case stb | sth | stw | stx => exact storeN_endsInOrder _ _ _ _ s
  case stba | stha | stwa | stxa => exact storeAltN_endsInOrder _ _ _ _ s
  case std | stda => exact .raiseFirst _ (.withStore _ _ (.advance _ rfl))
  case rdy | rdccr | rdasi | rdpc | rdfprs => exact .writeAndAdvance _ _ _ rfl
  case rdtick => exact .raiseFirst _ (.writeAndAdvance _ _ _ rfl)
  case rdasr16_31 | wrasr16_31 => exact .raise _
  case wry | wrccr | wrasi | wrfprs => exact .advance _ rfl
  case sir => exact .ite _ (.raise _) (.advance _ rfl)
  case rdpr => exact .raiseFirst _ (.writeAndAdvance _ _ _ (privRead_npc ..))
  case wrpr => exact .raiseFirst _ (writePriv_endsInOrder _ _ s)
  case save => exact execSave_endsInOrder _ _ _ s
  case restore => exact execRestore_endsInOrder _ _ _ s
  case saved => exact execSaved_endsInOrder s
  case restored => exact execRestored_endsInOrder s
  case taddcc => exact .advance _ (State.writeReg_npc ..)
  case taddcctv => exact .raiseFirst _ (.advance _ (State.writeReg_npc ..))

/-- Settles O21: the checks of an instruction come before its effect, and the effect ends by
advancing. -/
theorem nonBranchesAdvanceOrTrap : Obligations.NonBranchesAdvanceOrTrap := by
  unfold Obligations.NonBranchesAdvanceOrTrap
  intro i s t hb
  exact exec_endsInOrder i s hb t

end Sys2Proof.Machine
end

section
/-! SUPPORT. The family 20_memory: what no step changes, the program text among it (R100, D10, D27). -/

namespace Sys2Proof.Machine

/-! ### Accesses and the program text -/

theorem anyInRanges_eq_false_iff (rs : List Range) (a n : Nat) :
    anyInRanges rs a n = false ↔ ∀ x, a ≤ x → x < a + n → inRanges rs x = false := by
  induction n generalizing a with
  | zero => simp only [anyInRanges, true_iff]; omega
  | succ n ih =>
    simp only [anyInRanges, Bool.or_eq_false_iff, ih]
    constructor
    · rintro ⟨hfirst, hrest⟩ x hlow hhigh
      obtain rfl | hne := eq_or_ne x a
      · exact hfirst
      · exact hrest x (by omega) (by omega)
    · intro h
      exact ⟨h a (by omega) (by omega), fun x hlow hhigh => h x (by omega) (by omega)⟩

/-- A byte of the program text is no byte of an access that does not touch the text. -/
theorem State.outside_of_touchesText_eq_false {s : State} {a : Word} {n x : Nat}
    (h : s.touchesText a n = false) (hx : inRanges s.launch.text x = true) :
    x < a.toNat ∨ a.toNat + n ≤ x := by
  by_contra hin
  have hfalse := (anyInRanges_eq_false_iff _ _ _).1 h x (by omega) (by omega)
  exact Bool.false_ne_true (hfalse.symm.trans hx)

/-- The address of the second word of an aligned doubleword does not wrap. -/
theorem toNat_add_four {a : Word} (ha : a.toNat % 8 = 0) : (a + 4).toNat = a.toNat + 4 := by
  have := a.isLt
  rw [BitVec.toNat_add, show (4 : Word).toNat = 4 from rfl]
  omega

/-! ### States with the program of another state -/

/-- t holds the program of s: the launch contract, the parameters, SIR_enable and every byte of the
program text are those of s. -/
structure State.SameProgram (s t : State) : Prop where
  launch : t.launch = s.launch
  params : t.params = s.params
  sirEnable : t.sirEnable = s.sirEnable
  text : ∀ a : Nat, inRanges s.launch.text a = true → readByte t.mem a = readByte s.mem a

/-- An update that leaves memory and the three fields leaves the program. -/
theorem State.SameProgram.of_fields {s t : State} (hlaunch : t.launch = s.launch)
    (hparams : t.params = s.params) (hsir : t.sirEnable = s.sirEnable) (hmem : t.mem = s.mem) :
    s.SameProgram t :=
  ⟨hlaunch, hparams, hsir, fun _ _ => by rw [hmem]⟩

theorem State.SameProgram.trans {s t u : State} (hst : s.SameProgram t) (htu : t.SameProgram u) :
    s.SameProgram u where
  launch := htu.launch.trans hst.launch
  params := htu.params.trans hst.params
  sirEnable := htu.sirEnable.trans hst.sirEnable
  text a ha := (htu.text a (hst.launch ▸ ha)).trans (hst.text a ha)

theorem State.SameProgram.advance {s t : State} (h : s.SameProgram t) : s.SameProgram t.advance :=
  h.trans (.of_fields rfl rfl rfl rfl)

theorem State.SameProgram.writeReg {s t : State} (h : s.SameProgram t) (r : Reg) (v : Word) :
    s.SameProgram (t.writeReg r v) :=
  h.trans (.of_fields (t.writeReg_launch r v) (t.writeReg_params r v) (t.writeReg_sirEnable r v)
    (t.writeReg_mem r v))

/-- A trap stores nothing in memory (R372, R374, R375). -/
theorem takeTrap_sameProgram (e : Exc) (s : State) : s.SameProgram (takeTrap e s) := by
  unfold takeTrap
  split
  · exact .of_fields rfl rfl rfl rfl
  · split <;> exact .of_fields (by simp) (by simp) (by simp) (by simp)

/-! ### Stores -/

/-- A store that does not touch the text leaves its bytes (R100, D27). -/
theorem storeValue_sameProgram {s : State} (k : BitVec 8) {a : Word} {n : Nat} (v : Nat)
    (h : s.touchesText a n = false) : s.SameProgram (s.storeValue k a n v) where
  launch := rfl
  params := rfl
  sirEnable := rfl
  text x hx := by
    have hout := State.outside_of_touchesText_eq_false h hx
    exact (memWritten_writeBytes _ _ _).2 x (by rwa [length_valueBytes])

theorem touchesText_halves {s : State} {a : Word} (ha : a.toNat % 8 = 0)
    (h : s.touchesText a 8 = false) :
    s.touchesText a 4 = false ∧ s.touchesText (a + 4) 4 = false := by
  unfold State.touchesText at *
  rw [anyInRanges_eq_false_iff] at *
  rw [anyInRanges_eq_false_iff, toNat_add_four ha]
  exact ⟨fun x hlow hhigh => h x hlow (by omega), fun x hlow hhigh => h x (by omega) (by omega)⟩

theorem storePair_sameProgram {s : State} (k : BitVec 8) {a : Word} (x y : Word)
    (ha : a.toNat % 8 = 0) (h : s.touchesText a 8 = false) : s.SameProgram (s.storePair k a x y) := by
  obtain ⟨hlow, hhigh⟩ := touchesText_halves ha h
  exact (storeValue_sameProgram k _ hlow).trans (storeValue_sameProgram k _ hhigh)

theorem compareAndSwap_sameProgram {s : State} (k : BitVec 8) {a : Word} {n : Nat} (rs2 rd : Reg)
    (h : s.touchesText a n = false) : s.SameProgram (compareAndSwap s k a n rs2 rd) := by
  unfold compareAndSwap
  refine State.SameProgram.writeReg ?_ rd _
  split
  · exact storeValue_sameProgram k _ h
  · exact .of_fields rfl rfl rfl rfl

/-! ### Every instruction, and every step -/

theorem withWinreg_sameProgram {s t : State} (v : Word) (f : BitVec 5 → State)
    (h : withWinreg s v f = .next t) (hf : ∀ x, s.SameProgram (f x)) : s.SameProgram t := by
  unfold withWinreg at h
  split at h
  · cases h
  · rw [next_inj h]
    exact (hf _).advance

/-- A write of a privileged register leaves the program, as SIR_enable and the parameters are no
privileged registers (R297). -/
theorem writePriv_sameProgram {s t : State} (n : Reg) (v : Word) (h : s.writePriv n v = .next t) :
    s.SameProgram t := by
  unfold State.writePriv at h
  split at h
  case h_3 =>
    rw [next_inj (withReserved_next _ _ _ _ h).2]
    exact .of_fields rfl rfl rfl rfl
  case h_7 | h_8 =>
    split at h
    · cases h
    · rw [next_inj h]
      exact .of_fields rfl rfl rfl rfl
  case h_10 | h_11 | h_12 | h_13 | h_14 =>
    exact withWinreg_sameProgram v _ h fun _ => .of_fields rfl rfl rfl rfl
  case h_16 =>
    rw [next_inj h]
    exact takeTrap_sameProgram _ s
  all_goals
    rw [next_inj h]
    exact .of_fields rfl rfl rfl rfl

/-- Every next state an instruction can answer holds the program: the effects that store in memory are
those guarded against the program text. -/
theorem effect_sameProgram {i : Instr} {s t : State} (h : Effect i s t) : s.SameProgram t := by
  cases h
  case trap e => exact takeTrap_sameProgram e s
  case cas k a n rs2 rd _ ht _ _ => exact (compareAndSwap_sameProgram k rs2 rd ht).advance
  case swap k a rd _ ht _ => exact ((storeValue_sameProgram k _ ht).writeReg rd _).advance
  case store k a n v _ ht _ _ => exact (storeValue_sameProgram k v ht).advance
  case storePair k a x y _ ht ha => exact (storePair_sameProgram k x y ha ht).advance
  case wrpr n rs1 op2 _ _ _ hw => exact writePriv_sameProgram n _ hw
  all_goals exact .of_fields (by simp) (by simp) (by simp) (by simp)

theorem step_sameProgram {s t : State} (h : step s = .next t) : s.SameProgram t := by
  obtain ⟨-, ⟨e, rfl⟩ | ⟨i, -, hx⟩⟩ := step_next s t h
  · exact takeTrap_sameProgram e s
  · exact effect_sameProgram (exec_effect i s t hx)

/-- Settles O11: the stores among the effects of an instruction are apart from the program text. -/
theorem programTextNeverChanges : Obligations.ProgramTextNeverChanges := by
  unfold Obligations.ProgramTextNeverChanges
  intro s t h
  obtain ⟨hlaunch, hparams, hsir, htext⟩ := step_sameProgram h
  exact ⟨hlaunch, hparams, hsir, htext⟩

end Sys2Proof.Machine
end

section
/-! SUPPORT. The family 20_memory: memory as an array of bytes, the byte order of values (R84, R85). -/

namespace Sys2Proof.Machine

/-! ### Memories in canonical form -/

/-- Below its first entry a memory reads as the initial byte. -/
theorem readByte_below {m : Memory} {k : Nat} {v : Byte} {x : Nat}
    (hwf : Memory.wf ((k, v) :: m) = true) (hx : x < k) :
    readByte ((k, v) :: m) x = initialByte := by
  obtain ⟨-, hsorted⟩ := (wf_iff _).1 hwf
  obtain ⟨hhead, -⟩ := List.pairwise_cons.1 hsorted
  refine readByte_unlisted _ _ fun p hp => ?_
  rcases List.mem_cons.1 hp with rfl | hp
  · exact hx.ne'
  · exact (hx.trans (hhead p hp)).ne'

/-- The first entry of a canonical memory is not the initial byte. -/
theorem readByte_head_ne {m : Memory} {k : Nat} {v : Byte}
    (hwf : Memory.wf ((k, v) :: m) = true) : readByte ((k, v) :: m) k ≠ initialByte := by
  rw [readByte_cons, if_pos rfl]
  exact (((wf_iff _).1 hwf).1 (k, v) List.mem_cons_self).2

/-- Behind its first entry a canonical memory holds nothing at the entry's address. -/
theorem readByte_tail_head {m : Memory} {k : Nat} {v : Byte}
    (hwf : Memory.wf ((k, v) :: m) = true) : readByte m k = initialByte := by
  obtain ⟨-, hsorted⟩ := (wf_iff _).1 hwf
  exact readByte_unlisted _ _ fun p hp => ((List.pairwise_cons.1 hsorted).1 p hp).ne'

theorem wf_tail {m : Memory} {p : Host.Cell} (hwf : Memory.wf (p :: m) = true) :
    Memory.wf m = true := by
  obtain ⟨hentries, hsorted⟩ := (wf_iff _).1 hwf
  exact (wf_iff _).2
    ⟨fun q hq => hentries q (List.mem_cons_of_mem _ hq), (List.pairwise_cons.1 hsorted).2⟩

/-- Canonical memories that read alike: the first entry of one is not above the other's. -/
theorem head_le_head {m m' : Memory} {k k' : Nat} {v v' : Byte}
    (hwf : Memory.wf ((k, v) :: m) = true) (hwf' : Memory.wf ((k', v') :: m') = true)
    (hread : ∀ x, readByte ((k, v) :: m) x = readByte ((k', v') :: m') x) : k' ≤ k := by
  by_contra hlt
  exact readByte_head_ne hwf ((hread k).trans (readByte_below hwf' (by omega)))

/-- Two canonical memories that read alike are equal. -/
theorem memory_ext {m m' : Memory} (hwf : Memory.wf m = true) (hwf' : Memory.wf m' = true)
    (hread : ∀ x, readByte m x = readByte m' x) : m = m' := by
  induction m generalizing m' with
  | nil =>
    cases m' with
    | nil => rfl
    | cons p' m' => exact absurd (hread p'.1).symm (readByte_head_ne hwf')
  | cons p m ih =>
    obtain ⟨k, v⟩ := p
    cases m' with
    | nil => exact absurd (hread k) (readByte_head_ne hwf)
    | cons p' m' =>
      obtain ⟨k', v'⟩ := p'
      obtain rfl : k = k' :=
        Nat.le_antisymm (head_le_head hwf' hwf fun x => (hread x).symm) (head_le_head hwf hwf' hread)
      have hhead := hread k
      rw [readByte_cons, readByte_cons, if_pos rfl, if_pos rfl] at hhead
      have htail : m = m' := by
        refine ih (wf_tail hwf) (wf_tail hwf') fun x => ?_
        obtain rfl | hne := eq_or_ne x k
        · rw [readByte_tail_head hwf, readByte_tail_head hwf']
        · have hx := hread x
          rwa [readByte_cons, readByte_cons, if_neg hne, if_neg hne] at hx
      rw [hhead, htail]

/-- Settles O15: the laws of memory, and induction on two canonical memories entry by entry. -/
theorem memoryIsAnArrayOfBytes : Obligations.MemoryIsAnArrayOfBytes := by
  unfold Obligations.MemoryIsAnArrayOfBytes
  intro m a bytes
  exact ⟨memWritten_writeBytes m a bytes, readBytes_writeBytes m a bytes,
    fun hwf hfits => writeBytes_wf m a bytes hfits hwf, fun x => readByte_unlisted m x,
    fun _ => memory_ext⟩

/-! ### The bytes of a value -/

theorem beBytes_getElem? (n v k : Nat) (hk : k < n) :
    (beBytes n v)[k]? = some (BitVec.ofNat 8 (v / 256 ^ (n - 1 - k))) := by
  unfold beBytes
  rw [List.getElem?_reverse (by rwa [length_leBytes]), length_leBytes,
    leBytes_getElem? _ _ _ (by omega)]

theorem valueBytes_getElem? (little : Bool) (n v k : Nat) (hk : k < n) :
    (valueBytes little n v)[k]?
      = some (BitVec.ofNat 8 (v / 256 ^ (if little then k else n - 1 - k))) := by
  cases little
  · exact beBytes_getElem? n v k hk
  · exact leBytes_getElem? n v k hk

/-- Settles O16: the little-endian bytes by induction, the big-endian ones as their reverse. -/
theorem byteOrderOfAValue : Obligations.ByteOrderOfAValue := by
  unfold Obligations.ByteOrderOfAValue
  intro little n v
  exact ⟨length_valueBytes little n v, bytesValue_valueBytes little n v,
    valueBytes_getElem? little n v⟩

end Sys2Proof.Machine
end

section
/-! SUPPORT. The family 20_memory: the checks of an access one by one, and what each access is once its
checks pass. -/

namespace Sys2Proof.Machine

/-! ### Each check, passing and failing (R81, R83, R90, R136, R200) -/

section
variable {s : State} {a : Word} {n : Nat} {asi : BitVec 8} {k : Res}

theorem raiseFirst_oddRdCheck {rd : Reg} (h : rd.getLsbD 0 = false) :
    raiseFirst s (oddRdCheck rd) k = k :=
  raiseFirst_pass _ _ _ (by simpa [oddRdCheck] using h)

theorem raiseFirst_fpCheck (h : s.fpEnabled = true) : raiseFirst s s.fpCheck k = k :=
  raiseFirst_pass _ _ _ (by simpa [State.fpCheck] using h)

theorem raiseFirst_aligned (e : Exc) (cs : List (Bool × Exc)) (h : a.toNat % n = 0) :
    raiseFirst s ((misaligned a n, e) :: cs) k = raiseFirst s cs k := by
  rw [raiseFirst_cons, (misaligned_eq_false a n).2 h, if_neg Bool.false_ne_true]

theorem raiseFirst_misaligned (e : Exc) (cs : List (Bool × Exc)) (h : a.toNat % n ≠ 0) :
    raiseFirst s ((misaligned a n, e) :: cs) k = raise e s := by
  rw [raiseFirst_cons, if_pos (show misaligned a n = true from decide_eq_true h)]

theorem raiseFirst_alignmentCheck (h : a.toNat % n = 0) :
    raiseFirst s (alignmentCheck a n) k = k := raiseFirst_aligned _ [] h

theorem raiseFirst_alignmentCheck_misaligned (h : a.toNat % n ≠ 0) :
    raiseFirst s (alignmentCheck a n) k = raise .memAddressNotAligned s :=
  raiseFirst_misaligned _ [] h

theorem raiseFirst_asiChecks (h : s.asiUsable asi) : raiseFirst s (s.asiChecks asi) k = k := by
  obtain ⟨hknown, hpriv⟩ := h
  refine raiseFirst_pass _ _ _ ?_
  rcases hpriv with h | h <;> simp [State.asiChecks, hknown, h]

theorem raiseFirst_asiChecks_restricted (hasi : asi.toNat < 0x80) (hpriv : s.priv = false) :
    raiseFirst s (s.asiChecks asi) k = raise .privilegedAction s := by
  rw [State.asiChecks, raiseFirst_cons, if_pos]
  simp [restrictedAsi, hasi, hpriv]

/-- An ASI passes the first of the two checks when it is unrestricted or the mode is privileged. -/
theorem raiseFirst_asiChecks_unknown (hmode : 0x80 ≤ asi.toNat ∨ s.priv = true)
    (hasi : knownAsi asi = false) :
    raiseFirst s (s.asiChecks asi) k = raise .dataAccessException s := by
  rw [State.asiChecks, raiseFirst_cons, if_neg, raiseFirst_cons, if_pos]
  · simp [hasi]
  · rcases hmode with h | h
    · simp [restrictedAsi, h]
    · simp [h]

theorem raiseFirst_nofaultCheck (h : nofaultAsi asi = false) :
    raiseFirst s (nofaultCheck asi) k = k :=
  raiseFirst_pass _ _ _ (by simpa [nofaultCheck] using h)

theorem raiseFirst_nofaultCheck_nofault (h : nofaultAsi asi = true) :
    raiseFirst s (nofaultCheck asi) k = raise .dataAccessException s := by
  rw [nofaultCheck, raiseFirst_cons, if_pos h]

/-! ### The checks of a store or atomic in an alternate form, together (R180, R330) -/

theorem altStoreChecks_misaligned (h : a.toNat % n ≠ 0) :
    raiseFirst s (altStoreChecks s asi a n) k = raise .memAddressNotAligned s := by
  rw [altStoreChecks, raiseFirst_append, raiseFirst_append, raiseFirst_alignmentCheck_misaligned h]

theorem altStoreChecks_aligned (h : a.toNat % n = 0) :
    raiseFirst s (altStoreChecks s asi a n) k
      = raiseFirst s (s.asiChecks asi) (raiseFirst s (nofaultCheck asi) k) := by
  rw [altStoreChecks, raiseFirst_append, raiseFirst_append, raiseFirst_alignmentCheck h]

theorem altStoreChecks_pass (ha : a.toNat % n = 0) (husable : s.asiUsable asi)
    (hasi : nofaultAsi asi = false) : raiseFirst s (altStoreChecks s asi a n) k = k := by
  rw [altStoreChecks_aligned ha, raiseFirst_asiChecks husable, raiseFirst_nofaultCheck hasi]

theorem altStoreChecks_restricted (ha : a.toNat % n = 0) (hasi : asi.toNat < 0x80)
    (hpriv : s.priv = false) :
    raiseFirst s (altStoreChecks s asi a n) k = raise .privilegedAction s := by
  rw [altStoreChecks_aligned ha, raiseFirst_asiChecks_restricted hasi hpriv]

theorem altStoreChecks_unusable (ha : a.toNat % n = 0) (hmode : 0x80 ≤ asi.toNat ∨ s.priv = true)
    (hasi : knownAsi asi = false ∨ nofaultAsi asi = true) :
    raiseFirst s (altStoreChecks s asi a n) k = raise .dataAccessException s := by
  rw [altStoreChecks_aligned ha]
  cases hknown : knownAsi asi
  case false => exact raiseFirst_asiChecks_unknown hmode hknown
  case true =>
    have hmode : restrictedAsi asi = false ∨ s.priv = true :=
      hmode.imp_left fun h => decide_eq_false (Nat.not_lt.2 h)
    have hnofault : nofaultAsi asi = true :=
      hasi.resolve_left fun h => Bool.false_ne_true (h.symm.trans hknown)
    rw [raiseFirst_asiChecks ⟨hknown, hmode⟩, raiseFirst_nofaultCheck_nofault hnofault]

/-! ### The guards of an access (R100, D12, D27) -/

theorem withLoad_pass (h : s.hasMemory a n = true) : withLoad s a n k = k := if_pos h

theorem withLoad_missing (h : s.hasMemory a n = false) :
    withLoad s a n k = .fault (.noMemoryAtAddress a) := by
  rw [withLoad, h, if_neg Bool.false_ne_true]

theorem withStore_pass (hmem : s.hasMemory a n = true) (htext : s.touchesText a n = false) :
    withStore s a n k = k := by
  rw [withStore, if_pos hmem, htext, if_neg Bool.false_ne_true]

theorem withStore_missing (h : s.hasMemory a n = false) :
    withStore s a n k = .fault (.noMemoryAtAddress a) := by
  rw [withStore, h, if_neg Bool.false_ne_true]

theorem withStore_text (hmem : s.hasMemory a n = true) (htext : s.touchesText a n = true) :
    withStore s a n k = .fault (.storeToProgramText a) := by
  rw [withStore, if_pos hmem, if_pos htext]

end

/-! ### What an access is once its checks pass -/

section
variable {s : State} {n : Nat} {rd rs1 rs2 : Reg} {op2 : Operand2} {alt : AltOperand} {asi : CasAsi}

theorem storeN_checked (ha : (s.effAddr rs1 op2).toNat % n = 0) :
    storeN n rd rs1 op2 s = withStore s (s.effAddr rs1 op2) n
      (.next (s.storeValue s.implicitAsi (s.effAddr rs1 op2) n (s.readReg rd).toNat).advance) :=
  raiseFirst_alignmentCheck ha

theorem storeAltN_checked (ha : (s.altAddr rs1 alt).toNat % n = 0)
    (husable : s.asiUsable (s.altAsi alt)) (hasi : nofaultAsi (s.altAsi alt) = false) :
    storeAltN n rd rs1 alt s = withStore s (s.altAddr rs1 alt) n
      (.next (s.storeValue (s.altAsi alt) (s.altAddr rs1 alt) n (s.readReg rd).toNat).advance) :=
  altStoreChecks_pass ha husable hasi

theorem casN_checked (ha : (s.casAddr rs1).toNat % n = 0) (husable : s.asiUsable (s.casAsi asi))
    (hasi : nofaultAsi (s.casAsi asi) = false) :
    casN n rd rs1 asi rs2 s = withStore s (s.casAddr rs1) n
      (.next (compareAndSwap s (s.casAsi asi) (s.casAddr rs1) n rs2 rd).advance) :=
  altStoreChecks_pass ha husable hasi

theorem execSwap_checked (ha : (s.effAddr rs1 op2).toNat % 4 = 0) :
    execSwap rd rs1 op2 s = withStore s (s.effAddr rs1 op2) 4
      (.next (swapWord s s.implicitAsi (s.effAddr rs1 op2) rd).advance) :=
  raiseFirst_alignmentCheck ha

/-- The checks that begin every access of a pair, passed. -/
theorem pairChecks_pass {a : Word} {k : Res} (hrd : rd.getLsbD 0 = false) (ha : a.toNat % n = 0) :
    raiseFirst s (oddRdCheck rd ++ alignmentCheck a n) k = k := by
  rw [raiseFirst_append, raiseFirst_oddRdCheck hrd, raiseFirst_alignmentCheck ha]

theorem pairChecks_misaligned {a : Word} {k : Res} (hrd : rd.getLsbD 0 = false)
    (ha : a.toNat % n ≠ 0) :
    raiseFirst s (oddRdCheck rd ++ alignmentCheck a n) k = raise .memAddressNotAligned s := by
  rw [raiseFirst_append, raiseFirst_oddRdCheck hrd, raiseFirst_alignmentCheck_misaligned ha]

theorem execStd_checked (hrd : rd.getLsbD 0 = false) (ha : (s.effAddr rs1 op2).toNat % 8 = 0) :
    execStd rd rs1 op2 s = withStore s (s.effAddr rs1 op2) 8
      (.next (s.storePair s.implicitAsi (s.effAddr rs1 op2) (s.readReg rd)
        (s.readReg (rd + 1))).advance) :=
  pairChecks_pass hrd ha

theorem execStda_even (hrd : rd.getLsbD 0 = false) :
    execStda rd rs1 alt s
      = raiseFirst s (altStoreChecks s (s.altAsi alt) (s.altAddr rs1 alt) 8)
        (withStore s (s.altAddr rs1 alt) 8
          (.next (s.storePair (s.altAsi alt) (s.altAddr rs1 alt) (s.readReg rd)
            (s.readReg (rd + 1))).advance)) := by
  rw [execStda, raiseFirst_append, raiseFirst_oddRdCheck hrd, pairReg]

theorem execStda_checked (hrd : rd.getLsbD 0 = false) (ha : (s.altAddr rs1 alt).toNat % 8 = 0)
    (husable : s.asiUsable (s.altAsi alt)) (hasi : nofaultAsi (s.altAsi alt) = false) :
    execStda rd rs1 alt s = withStore s (s.altAddr rs1 alt) 8
      (.next (s.storePair (s.altAsi alt) (s.altAddr rs1 alt) (s.readReg rd)
        (s.readReg (rd + 1))).advance) := by
  rw [execStda_even hrd, altStoreChecks_pass ha husable hasi]

theorem execLdd_checked (hrd : rd.getLsbD 0 = false) (ha : (s.effAddr rs1 op2).toNat % 8 = 0) :
    execLdd rd rs1 op2 s = withLoad s (s.effAddr rs1 op2) 8
      (.next (s.loadPair s.implicitAsi (s.effAddr rs1 op2) rd).advance) :=
  pairChecks_pass hrd ha

theorem execLdda_aligned (hrd : rd.getLsbD 0 = false) (ha : (s.altAddr rs1 alt).toNat % 8 = 0) :
    execLdda rd rs1 alt s = raiseFirst s (s.asiChecks (s.altAsi alt))
      (withLoad s (s.altAddr rs1 alt) 8
        (.next (s.loadPair (s.altAsi alt) (s.altAddr rs1 alt) rd).advance)) := by
  rw [execLdda, raiseFirst_append, pairChecks_pass hrd ha]

theorem execLdda_checked (hrd : rd.getLsbD 0 = false) (ha : (s.altAddr rs1 alt).toNat % 8 = 0)
    (husable : s.asiUsable (s.altAsi alt)) :
    execLdda rd rs1 alt s = withLoad s (s.altAddr rs1 alt) 8
      (.next (s.loadPair (s.altAsi alt) (s.altAddr rs1 alt) rd).advance) := by
  rw [execLdda_aligned hrd ha, raiseFirst_asiChecks husable]

/-- The checks that begin every floating-point load, passed. -/
theorem fpLoadChecks_pass {a : Word} {k : Res} (hfp : s.fpEnabled = true) (ha : a.toNat % n = 0) :
    raiseFirst s (s.fpCheck ++ alignmentCheck a n) k = k := by
  rw [raiseFirst_append, raiseFirst_fpCheck hfp, raiseFirst_alignmentCheck ha]

theorem fpLoadChecks_misaligned {a : Word} {k : Res} (hfp : s.fpEnabled = true)
    (ha : a.toNat % n ≠ 0) :
    raiseFirst s (s.fpCheck ++ alignmentCheck a n) k = raise .memAddressNotAligned s := by
  rw [raiseFirst_append, raiseFirst_fpCheck hfp, raiseFirst_alignmentCheck_misaligned ha]

theorem execLdf_checked (hfp : s.fpEnabled = true) (ha : (s.effAddr rs1 op2).toNat % 4 = 0) :
    execLdf rd rs1 op2 s = withLoad s (s.effAddr rs1 op2) 4
      (.next ((s.setF32 (singleReg rd)
        (BitVec.ofNat 32 (s.loadValue s.implicitAsi (s.effAddr rs1 op2) 4))).markDirty
          (singleReg rd)).advance) :=
  fpLoadChecks_pass hfp ha

theorem execLddf_checked (hfp : s.fpEnabled = true) (ha : (s.effAddr rs1 op2).toNat % 8 = 0) :
    execLddf rd rs1 op2 s = withLoad s (s.effAddr rs1 op2) 8
      (.next ((s.setF64 (doubleReg rd)
        (BitVec.ofNat 64 (s.loadValue s.implicitAsi (s.effAddr rs1 op2) 8))).markDirty
          (doubleReg rd)).advance) := by
  rw [execLddf, raiseFirst_append, fpLoadChecks_pass hfp (by omega), raiseFirst_aligned _ _ ha,
    raiseFirst_nil]

theorem execLdqf_checked (hfp : s.fpEnabled = true) (ha : (s.effAddr rs1 op2).toNat % 16 = 0)
    (hrd : quadFieldInvalid rd = false) :
    execLdqf rd rs1 op2 s = if littleAsi s.implicitAsi then .refused .littleEndianQuadLoad
      else withLoad s (s.effAddr rs1 op2) 16
        (.next ((s.setF128 (doubleReg rd)
          (BitVec.ofNat 128 (s.loadValue s.implicitAsi (s.effAddr rs1 op2) 16))).markDirty
            (doubleReg rd)).advance) := by
  rw [execLdqf, raiseFirst_append, fpLoadChecks_pass hfp (by omega), raiseFirst_aligned _ _ ha,
    raiseFirst_cons, hrd, if_neg Bool.false_ne_true, raiseFirst_nil]

theorem execLdfsr_checked (hfp : s.fpEnabled = true) (ha : (s.effAddr rs1 op2).toNat % 4 = 0) :
    execLdfsr rs1 op2 s = withLoad s (s.effAddr rs1 op2) 4
      (withReserved fsrReserved
        (BitVec.ofNat 64 (s.loadValue s.implicitAsi (s.effAddr rs1 op2) 4))
        (.next (State.advance { s with
          fsr := fsrAfterLoadWord s.fsr
            (BitVec.ofNat 32 (s.loadValue s.implicitAsi (s.effAddr rs1 op2) 4)) }))) :=
  fpLoadChecks_pass hfp ha

theorem execLdxfsr_checked (hfp : s.fpEnabled = true) (ha : (s.effAddr rs1 op2).toNat % 8 = 0) :
    execLdxfsr rs1 op2 s = withLoad s (s.effAddr rs1 op2) 8
      (withReserved fsrReserved
        (BitVec.ofNat 64 (s.loadValue s.implicitAsi (s.effAddr rs1 op2) 8))
        (.next (State.advance { s with
          fsr := fsrAfterLoadExtended s.fsr
            (BitVec.ofNat 64 (s.loadValue s.implicitAsi (s.effAddr rs1 op2) 8)) }))) :=
  fpLoadChecks_pass hfp ha

end

end Sys2Proof.Machine
end

section
/-! SUPPORT. The family 20_memory: loads and stores of pairs (R87, R88), misaligned accesses (R90), the
checks of the ASI (R81, R83) and accesses where nothing may be read or stored (R100, D12, D27). -/

namespace Sys2Proof.Machine

/-! ### Pairs of registers and of words -/

/-- The number of a cell within its group of eight. -/
def IntCell.index : IntCell → Fin 8
  | .global i | .altGlobal i | .loc _ i | .inn _ i => i

theorem State.index_of_cellOf {s : State} {r : Reg} {c : IntCell} (h : s.cellOf r = some c) :
    c.index = groupIndex r := by
  unfold State.cellOf at h
  split at h
  · cases h
  · cases hg : regGroup r <;> rw [hg] at h <;> obtain rfl := Option.some.inj h
    case globals => cases s.ag <;> rfl
    all_goals rfl

theorem groupIndex_add_one_ne : ∀ r : Reg, groupIndex (r + 1) ≠ groupIndex r := by decide

/-- The two registers of a pair name different cells. -/
theorem State.cellOf_add_one_ne (s : State) (r : Reg) (c : IntCell) (h : s.cellOf r = some c) :
    s.cellOf (r + 1) ≠ some c := fun h' =>
  groupIndex_add_one_ne r ((State.index_of_cellOf h').symm.trans (State.index_of_cellOf h))

/-- What LDD and LDDA do to an aligned doubleword (R87). -/
theorem wroteInts_loadPair (s : State) (k : BitVec 8) {a : Word} (rd : Reg)
    (ha : a.toNat % 8 = 0) :
    WroteInts s (s.loadPair k a rd).advance
      [(s.cellOf rd, BitVec.ofNat 64 (bytesValue (littleAsi k) (readBytes s.mem a.toNat 4))),
        (s.cellOf (rd + 1),
          BitVec.ofNat 64 (bytesValue (littleAsi k) (readBytes s.mem (a.toNat + 4) 4)))] := by
  rw [← toNat_add_four ha]
  exact wroteInts_writeReg_writeReg s rd (rd + 1) _ _ (s.cellOf_add_one_ne rd)

/-- A store of a word looks at the low word of a register only. -/
theorem valueBytes_lowWord (little : Bool) (x : Word) :
    valueBytes little 4 (x.extractLsb' 0 32).toNat = valueBytes little 4 x.toNat := by
  rw [BitVec.extractLsb'_toNat, Nat.shiftRight_zero]
  exact valueBytes_mod little 4 x.toNat

/-- What STD and STDA do to an aligned doubleword (R88). -/
theorem memWritten_storePair (s : State) (k : BitVec 8) {a : Word} (x y : Word)
    (ha : a.toNat % 8 = 0) :
    MemWritten s.mem (s.storePair k a x y).mem a.toNat
      (valueBytes (littleAsi k) 4 x.toNat ++ valueBytes (littleAsi k) 4 y.toNat) := by
  have hmem : (s.storePair k a x y).mem = writeBytes s.mem a.toNat
      (valueBytes (littleAsi k) 4 x.toNat ++ valueBytes (littleAsi k) 4 y.toNat) := by
    rw [writeBytes_append, length_valueBytes, ← toNat_add_four ha, ← valueBytes_lowWord _ x,
      ← valueBytes_lowWord _ y]
    rfl
  rw [hmem]
  exact memWritten_writeBytes _ _ _

/-- Settles O30: both loads end in the same two register writes, to different cells. -/
theorem pairLoads : Obligations.PairLoads := by
  unfold Obligations.PairLoads
  intro s rd rs1 hrd
  refine ⟨?ldd, ?ldda⟩
  case ldd =>
    rintro op2 ⟨ha, hmem⟩
    exact ⟨_, (execLdd_checked hrd ha).trans (withLoad_pass hmem), wroteInts_loadPair s _ rd ha⟩
  case ldda =>
    rintro alt ⟨ha, hmem⟩ husable
    exact ⟨_, (execLdda_checked hrd ha husable).trans (withLoad_pass hmem),
      wroteInts_loadPair s _ rd ha⟩

theorem State.storePair_advance (s : State) (k : BitVec 8) (a x y : Word) :
    (s.storePair k a x y).advance = s.nextWithMem (s.storePair k a x y).mem := rfl

/-- Settles O33: both stores write the eight bytes of the two words at the address. -/
theorem pairStores : Obligations.PairStores := by
  unfold Obligations.PairStores
  intro s rd rs1 hrd
  refine ⟨?std, ?stda⟩
  case std =>
    rintro op2 ⟨ha, hmem, htext⟩
    refine ⟨_, ?_, memWritten_storePair s _ _ _ ha⟩
    rw [← State.storePair_advance]
    exact (execStd_checked hrd ha).trans (withStore_pass hmem htext)
  case stda =>
    rintro alt ⟨ha, hmem, htext⟩ husable hasi
    refine ⟨_, ?_, memWritten_storePair s _ _ _ ha⟩
    rw [← State.storePair_advance]
    exact (execStda_checked hrd ha husable hasi).trans (withStore_pass hmem htext)

/-! ### Misaligned accesses (R90) -/

section
variable {s : State} {a : Word} {n : Nat} {cs : List (Bool × Exc)} {k : Res}

theorem fpLoadChecks_append_misaligned (hfp : s.fpEnabled = true) (ha : a.toNat % n ≠ 0) :
    raiseFirst s (s.fpCheck ++ alignmentCheck a n ++ cs) k = raise .memAddressNotAligned s := by
  rw [raiseFirst_append, fpLoadChecks_misaligned hfp ha]

/-- LDDF and LDQF have an exception of their own at a multiple of 4 (R242, R245). -/
theorem fpLoadChecks_wordAligned (e : Exc) (hfp : s.fpEnabled = true) (ha : a.toNat % 4 = 0)
    (han : a.toNat % n ≠ 0) :
    raiseFirst s (s.fpCheck ++ alignmentCheck a 4 ++ (misaligned a n, e) :: cs) k = raise e s := by
  rw [raiseFirst_append, fpLoadChecks_pass hfp ha, raiseFirst_misaligned e cs han]

end

theorem execLdda_misaligned {s : State} {rd rs1 : Reg} {alt : AltOperand}
    (hrd : rd.getLsbD 0 = false) (ha : (s.altAddr rs1 alt).toNat % 8 ≠ 0) :
    execLdda rd rs1 alt s = raise .memAddressNotAligned s := by
  rw [execLdda, raiseFirst_append, pairChecks_misaligned hrd ha]

/-- Settles O34: the alignment check is the first of every access but for the check of an odd rd and
of a disabled floating-point unit. -/
theorem misalignedAccessesTrap : Obligations.MisalignedAccessesTrap := by
  unfold Obligations.MisalignedAccessesTrap
  intro s rd rs1
  refine ⟨fun op2 => ⟨?sth, ?stw_swap, ?stx, ?std_ldd, ?floating, ?ldxfsr, ?lddf, ?ldqf⟩,
    fun alt => ⟨?stha, ?stwa, ?stxa, ?stda_ldda⟩, fun asi rs2 => ⟨?casa, ?casxa⟩⟩
  case sth | stx => exact raiseFirst_alignmentCheck_misaligned
  case stw_swap =>
    exact fun ha =>
      ⟨raiseFirst_alignmentCheck_misaligned ha, raiseFirst_alignmentCheck_misaligned ha⟩
  case std_ldd => exact fun ha hrd => ⟨pairChecks_misaligned hrd ha, pairChecks_misaligned hrd ha⟩
  case floating =>
    exact fun hfp ha => ⟨fpLoadChecks_misaligned hfp ha, fpLoadChecks_append_misaligned hfp ha,
      fpLoadChecks_append_misaligned hfp ha, fpLoadChecks_misaligned hfp ha⟩
  case ldxfsr => exact fpLoadChecks_misaligned
  case lddf | ldqf => exact fpLoadChecks_wordAligned _
  case stha | stwa | stxa | casa | casxa => exact altStoreChecks_misaligned
  case stda_ldda =>
    exact fun ha hrd => ⟨(execStda_even hrd).trans (altStoreChecks_misaligned ha),
      execLdda_misaligned hrd ha⟩

/-! ### The checks of the ASI (R81, R83, D23) -/

/-- Where the instruction i, at a state s and with the ASI k, traps because of the ASI; of the unusable
ASIs the NOFAULT ones are so for stores and atomics only. -/
def AsiChecked (s : State) (i : Instr) (k : BitVec 8) (store : Bool) : Prop :=
  (k.toNat < 0x80 → s.priv = false → exec i s = raise .privilegedAction s) ∧
  (0x80 ≤ k.toNat ∨ s.priv = true → knownAsi k = false ∨ (store = true ∧ nofaultAsi k = true) →
    exec i s = raise .dataAccessException s)

theorem asiChecked_store {s : State} {i : Instr} {k : BitVec 8} {a : Word} {n : Nat} {r : Res}
    (ha : a.toNat % n = 0) (hexec : exec i s = raiseFirst s (altStoreChecks s k a n) r) :
    AsiChecked s i k true := by
  constructor
  · intro hasi hpriv
    rw [hexec, altStoreChecks_restricted ha hasi hpriv]
  · intro hmode hasi
    rw [hexec, altStoreChecks_unusable ha hmode (hasi.imp_right And.right)]

theorem asiChecked_load {s : State} {i : Instr} {k : BitVec 8} {r : Res}
    (hexec : exec i s = raiseFirst s (s.asiChecks k) r) : AsiChecked s i k false := by
  constructor
  · intro hasi hpriv
    rw [hexec, raiseFirst_asiChecks_restricted hasi hpriv]
  · intro hmode hasi
    have hunknown : knownAsi k = false := hasi.resolve_right fun h => Bool.false_ne_true h.1
    rw [hexec, raiseFirst_asiChecks_unknown hmode hunknown]

/-- Settles O35: every aligned alternate-space access begins with the checks of its ASI. -/
theorem asiChecksTrap : Obligations.AsiChecksTrap := by
  unfold Obligations.AsiChecksTrap
  intro s rd rs1 rs2 alt asi
  exact ⟨asiChecked_store (Nat.mod_one _) rfl, fun ha => asiChecked_store ha rfl,
    fun ha => asiChecked_store ha rfl, fun ha => asiChecked_store ha rfl,
    fun ha hrd => ⟨asiChecked_store ha (execStda_even hrd),
      asiChecked_load (execLdda_aligned hrd ha)⟩,
    fun ha => asiChecked_store ha rfl, fun ha => asiChecked_store ha rfl⟩

/-! ### Accesses where there is no memory, or program text (R100, D12, D27) -/

/-- Where a guarded store faults: missing memory comes before program text (log 20). -/
theorem withStore_faults {s : State} {r k : Res} {x : Word} {n : Nat} (h : r = withStore s x n k) :
    (s.hasMemory x n = false → r = .fault (.noMemoryAtAddress x)) ∧
    (s.hasMemory x n = true → s.touchesText x n = true → r = .fault (.storeToProgramText x)) :=
  ⟨fun hmem => h.trans (withStore_missing hmem),
    fun hmem htext => h.trans (withStore_text hmem htext)⟩

theorem withLoad_faults {s : State} {r k : Res} {x : Word} {n : Nat} (h : r = withLoad s x n k)
    (hmem : s.hasMemory x n = false) : r = .fault (.noMemoryAtAddress x) :=
  h.trans (withLoad_missing hmem)

/-- Settles O36: an access that has passed its checks is a guarded load or store. -/
theorem accessesOutsideMemoryFault : Obligations.AccessesOutsideMemoryFault := by
  unfold Obligations.AccessesOutsideMemoryFault
  intro s rd rs1 rs2 op2 alt asi
  refine ⟨?stb, ?sth, ?stw, ?stx, ?swap, fun husable hasi => ?alternate,
    fun husable hasi => ?atomics, fun hrd => ⟨?std, ?ldd, ?ldda⟩, fun hfp => ?floating⟩
  case stb | sth | stw | stx => exact fun ha => withStore_faults (storeN_checked ha)
  case swap => exact fun ha => withStore_faults (execSwap_checked ha)
  case alternate =>
    exact ⟨fun ha => withStore_faults (storeAltN_checked ha husable hasi),
      fun ha => withStore_faults (storeAltN_checked ha husable hasi),
      fun ha => withStore_faults (storeAltN_checked ha husable hasi),
      fun ha => withStore_faults (storeAltN_checked ha husable hasi),
      fun hrd ha => withStore_faults (execStda_checked hrd ha husable hasi)⟩
  case atomics =>
    exact ⟨fun ha => withStore_faults (casN_checked ha husable hasi),
      fun ha => withStore_faults (casN_checked ha husable hasi)⟩
  case std => exact fun ha => withStore_faults (execStd_checked hrd ha)
  case ldd => exact fun ha => withLoad_faults (execLdd_checked hrd ha)
  case ldda => exact fun husable ha => withLoad_faults (execLdda_checked hrd ha husable)
  case floating =>
    refine ⟨fun ha => ⟨?ldf, ?ldfsr⟩, fun ha => ⟨?lddf, ?ldxfsr⟩, fun ha hrd hlittle => ?ldqf⟩
    case ldf => exact withLoad_faults (execLdf_checked hfp ha)
    case ldfsr => exact withLoad_faults (execLdfsr_checked hfp ha)
    case lddf => exact withLoad_faults (execLddf_checked hfp ha)
    case ldxfsr => exact withLoad_faults (execLdxfsr_checked hfp ha)
    case ldqf =>
      have hbig : ¬ littleAsi s.implicitAsi = true := Bool.eq_false_iff.1 hlittle
      exact withLoad_faults ((execLdqf_checked hfp ha hrd).trans (if_neg hbig))

end Sys2Proof.Machine
end

section
/-! SUPPORT. The family 20_memory: a step at a decoded instruction (R86), and that what the decoder
answers is well-formed. -/

namespace Sys2Proof

/-! ### The rows made from a condition or a selector are well-formed -/

theorem wf_mkBicc (c : ICond) (a : Bool) (d : BitVec 22) : (mkBicc c a d).wf = true := by
  cases c <;> rfl

theorem wf_mkBpcc (c : ICond) (a : Bool) (cc : CcSel) (p : Bool) (d : BitVec 19) :
    (mkBpcc c a cc p d).wf = true := by
  cases c <;> rfl

theorem wf_mkBpr (c : RCond) (a p : Bool) (rs1 : Reg) (d : BitVec 16) :
    (mkBpr c a p rs1 d).wf = true := by
  cases c <;> rfl

theorem wf_mkFbfcc (c : FCond) (a : Bool) (d : BitVec 22) : (mkFbfcc c a d).wf = true := by
  cases c <;> rfl

theorem wf_mkFbpfcc (c : FCond) (a : Bool) (cc : FccSel) (p : Bool) (d : BitVec 19) :
    (mkFbpfcc c a cc p d).wf = true := by
  cases c <;> rfl

theorem wf_mkFmovFcc (size : FpSize) (sel : FccSel) (c : FCond) (rd rs2 : Reg) :
    (mkFmovFcc size sel c rd rs2).wf = true := by
  cases size <;> cases sel <;> rfl

theorem wf_mkFmovIcc (size : FpSize) (sel : CcSel) (c : ICond) (rd rs2 : Reg) :
    (mkFmovIcc size sel c rd rs2).wf = true := by
  cases size <;> cases sel <;> rfl

theorem wf_mkFmovr (size : FpSize) (c : RCond) (rd rs1 rs2 : Reg) :
    (mkFmovr size c rd rs1 rs2).wf = true := by
  cases size <;> cases c <;> rfl

theorem wf_mkMovr (c : RCond) (rd rs1 : Reg) (v : MovrOperand) : (mkMovr c rd rs1 v).wf = true := by
  cases c <;> rfl

/-! ### The decoder answers well-formed instructions -/

/-- What a word decodes to, if it is an instruction, is well-formed. -/
def Decoded.Wf (d : Decoded) : Prop := ∀ i, d = .instr i → i.wf = true

theorem Decoded.Wf.stop (d : DecodeStop) : (Decoded.stop d).Wf := fun _ h => nomatch h

theorem Decoded.Wf.instr {i : Instr} (h : i.wf = true) : (Decoded.instr i).Wf := by
  rintro _ ⟨⟩
  exact h

theorem Decoded.Wf.ite {c : Prop} [Decidable c] {d d' : Decoded} (h : c → d.Wf) (h' : d'.Wf) :
    (if c then d else d').Wf := by
  split
  case isTrue hc => exact h hc
  case isFalse => exact h'

theorem Decoded.Wf.withOperand {α : Type} (o : Option α) (stop : DecodeStop) {k : α → Instr}
    (h : ∀ v, (k v).wf = true) : (withOperand o stop k).Wf := by
  cases o with
  | none => exact .stop stop
  | some v => exact .instr (h v)

theorem decodeFormat2_wf (w : IWord) : (decodeFormat2 w).Wf := by
  unfold decodeFormat2
  dsimp only
  split
  case h_2 => exact .ite (fun _ => .stop _) (.instr (wf_mkBpcc ..))
  case h_3 => exact .instr (wf_mkBicc ..)
  case h_4 =>
    refine .ite (fun _ => .stop _) ?_
    split
    · exact .stop _
    · exact .instr (wf_mkBpr ..)
  case h_5 => exact .ite (fun _ => .instr rfl) (.stop _)
  case h_6 => exact .instr (wf_mkFbpfcc ..)
  case h_7 => exact .instr (wf_mkFbfcc ..)
  all_goals exact .stop _

/-- The row RDASR 16..31 is reached with rs1 in 16..31 only (R288). -/
theorem decodeRdasr_wf (rd rs1 : Reg) (low : BitVec 14) : (decodeRdasr rd rs1 low).Wf := by
  unfold decodeRdasr
  dsimp only
  split
  case h_7 => exact .stop _
  case h_8 => exact .ite (fun h => .instr (decide_eq_true h.1)) (.stop _)
  all_goals exact .ite (fun _ => .instr rfl) (.stop _)

/-- The row WRASR 16..31 is reached with rd in 16..31 only (R294). -/
theorem decodeWrasr_wf (rd rs1 : Reg) (low : BitVec 14) : (decodeWrasr rd rs1 low).Wf := by
  unfold decodeWrasr
  dsimp only
  split
  case h_5 => exact .ite (fun _ => .instr rfl) (.stop _)
  case h_6 => exact .ite (fun h => .withOperand _ _ fun _ => decide_eq_true h) (.stop _)
  all_goals exact .withOperand _ _ fun _ => rfl

theorem decodeSaved_wf (fcn rs1 : Reg) (low : BitVec 14) : (decodeSaved fcn rs1 low).Wf := by
  unfold decodeSaved
  split
  case h_3 => exact .stop _
  all_goals exact .ite (fun _ => .instr rfl) (.stop _)

theorem decodeRdpr_wf (rd rs1 : Reg) (low : BitVec 14) : (decodeRdpr rd rs1 low).Wf :=
  .ite (fun _ => .instr rfl) (.stop _)

theorem decodeWrpr_wf (rd rs1 : Reg) (low : BitVec 14) : (decodeWrpr rd rs1 low).Wf :=
  .withOperand _ _ fun _ => rfl

theorem decodeMovr_wf (rd rs1 : Reg) (low : BitVec 14) : (decodeMovr rd rs1 low).Wf := by
  unfold decodeMovr
  split
  · exact .stop _
  · exact .withOperand _ _ fun _ => wf_mkMovr ..

theorem decodeFmovcc_wf (rd rs1 : Reg) (low : BitVec 14) (size : FpSize) :
    (decodeFmovcc rd rs1 low size).Wf :=
  .ite (fun _ => .instr (wf_mkFmovFcc ..)) (.ite (fun _ => .stop _) (.instr (wf_mkFmovIcc ..)))

theorem decodeFmovr_wf (rd rs1 : Reg) (low : BitVec 14) (size : FpSize) :
    (decodeFmovr rd rs1 low size).Wf := by
  unfold decodeFmovr
  split
  · exact .stop _
  · exact .instr (wf_mkFmovr ..)

theorem decodeFpop2_wf (rd rs1 : Reg) (low : BitVec 14) : (decodeFpop2 rd rs1 low).Wf := by
  unfold decodeFpop2
  split
  · exact .stop _
  · exact .ite (fun _ => decodeFmovr_wf _ _ _ _) (.ite (fun _ => decodeFmovcc_wf _ _ _ _) (.stop _))

theorem decodeArith_wf (w : IWord) : (decodeArith w).Wf := by
  unfold decodeArith
  dsimp only
  split
  case h_1 | h_3 | h_14 | h_15 => exact .withOperand _ _ fun _ => rfl
  case h_5 => exact decodeRdasr_wf _ _ _
  case h_6 => exact decodeRdpr_wf _ _ _
  case h_7 => exact decodeMovr_wf _ _ _
  case h_8 => exact decodeWrasr_wf _ _ _
  case h_9 => exact decodeSaved_wf _ _ _
  case h_10 => exact decodeWrpr_wf _ _ _
  case h_11 => exact decodeFpop2_wf _ _ _
  all_goals exact .stop _

theorem decodeLdfsr_wf (rd rs1 : Reg) (low : BitVec 14) : (decodeLdfsr rd rs1 low).Wf := by
  unfold decodeLdfsr
  split
  case h_3 => exact .stop _
  all_goals exact .withOperand _ _ fun _ => rfl

theorem decodeMem_wf (w : IWord) : (decodeMem w).Wf := by
  unfold decodeMem
  dsimp only
  split
  case h_8 | h_9 | h_10 | h_11 | h_12 | h_13 => exact .instr rfl
  case h_15 => exact decodeLdfsr_wf _ _ _
  case h_20 => exact .stop _
  all_goals exact .withOperand _ _ fun _ => rfl

/-- What a word decodes to is well-formed: only the rows RDASR and WRASR 16..31 ask for more than the
widths of their fields. -/
theorem decode_wf {w : IWord} {i : Instr} (h : decode w = .instr i) : i.wf = true := by
  have hwf : (decode w).Wf := by
    unfold decode
    split
    · exact decodeFormat2_wf w
    · exact .stop _
    · exact decodeArith_wf w
    · exact decodeMem_wf w
  exact hwf i h

namespace Machine

/-! ### A step at a decoded instruction -/

theorem fetchFault_eq_none {s : State} (herror : s.errorState = false) (htext : s.inText s.pc = true)
    (hcode : s.codeExists s.pc = true) : fetchFault s = none := by
  simp [fetchFault, herror, htext, hcode]

theorem step_of_decode {s : State} {i : Instr} (hfetch : fetchFault s = none)
    (hdecode : decode (s.wordAt s.pc) = .instr i) : step s = exec i s := by
  simp only [step, hfetch, hdecode]

/-- Settles O5: with no fault in the fetch a step is exec of what the decoder answers. -/
theorem stepRunsTheDecodedInstruction : Obligations.StepRunsTheDecodedInstruction := by
  unfold Obligations.StepRunsTheDecodedInstruction
  intro s i herror htext hcode hdecode
  exact ⟨step_of_decode (fetchFault_eq_none herror htext hcode) hdecode, decode_wf hdecode⟩

end Machine

end Sys2Proof
end

section
/-! SUPPORT. The family 30_encoding: a word is its fields put together in one way only, and what each
reader of a field answers about the bits the encoder writes there (R121 to R134). -/

namespace Sys2Proof

/-! ### Condition, selector and size codes (R134, R201, R202) -/

@[simp] theorem ICond.ofBits_toBits (c : ICond) : ICond.ofBits c.toBits = c := by cases c <;> rfl

@[simp] theorem FCond.ofBits_toBits (c : FCond) : FCond.ofBits c.toBits = c := by cases c <;> rfl

@[simp] theorem FccSel.ofBits_toBits (c : FccSel) : FccSel.ofBits c.toBits = c := by cases c <;> rfl

@[simp] theorem ICond.toBits_ofBits : ∀ b : BitVec 4, (ICond.ofBits b).toBits = b := by decide

@[simp] theorem FCond.toBits_ofBits : ∀ b : BitVec 4, (FCond.ofBits b).toBits = b := by decide

@[simp] theorem FccSel.toBits_ofBits : ∀ b : BitVec 2, (FccSel.ofBits b).toBits = b := by decide

theorem RCond.ofBits_eq_some_iff {b : BitVec 3} {c : RCond} :
    RCond.ofBits b = some c ↔ c.toBits = b := by
  cases c <;> decide +revert

theorem FpSize.ofBits_eq_some_iff {b : BitVec 2} {c : FpSize} :
    FpSize.ofBits b = some c ↔ c.toBits = b := by
  cases c <;> decide +revert

/-! ### Bit strings put together -/

theorem append_eq_append_iff {n m : Nat} {a b : BitVec n} {c d : BitVec m} :
    a ++ c = b ++ d ↔ a = b ∧ c = d := by
  refine ⟨fun h => ⟨?_, ?_⟩, by rintro ⟨rfl, rfl⟩; rfl⟩
  · simpa only [BitVec.extractLsb'_append_eq_left] using congrArg (BitVec.extractLsb' m n) h
  · simpa only [BitVec.extractLsb'_append_eq_right] using congrArg (BitVec.extractLsb' 0 m) h

theorem ofBool_getLsbD {n : Nat} (w : BitVec n) (k : Nat) :
    BitVec.ofBool (w.getLsbD k) = w.extractLsb' k 1 := by
  ext i hi
  obtain rfl : i = 0 := by omega
  simp

theorem extractLsb'_extractLsb' {n : Nat} (x : BitVec n) {start len start' len' : Nat}
    (h : start + len ≤ len') :
    (x.extractLsb' start' len').extractLsb' start len = x.extractLsb' (start' + start) len := by
  ext k hk
  simp [show start + k < len' by omega, Nat.add_assoc]

/-! ### Format 2 words (R123) -/

/-- A word is a format 2 word when op is 0 and its fields are the ones put together. -/
theorem eq_fmt2_iff {w : IWord} {a : Bool} {cond : BitVec 4} {op2 : BitVec 3} {low : BitVec 22} :
    w = fmt2 a cond op2 low ↔
      fOp w = 0 ∧ fA w = a ∧ fCond w = cond ∧ fOp2 w = op2 ∧ fLow22 w = low := by
  have hw : (fOp w ++ BitVec.ofBool (fA w) ++ fCond w ++ fOp2 w ++ fLow22 w : BitVec 32) = w := by
    unfold fOp fA fCond fOp2 fLow22
    rw [ofBool_getLsbD]
    repeat rw [BitVec.extractLsb'_append_extractLsb'_eq_extractLsb' (by omega)]
    exact BitVec.extractLsb'_eq_self
  conv_lhs => rw [← hw, fmt2]
  repeat rw [append_eq_append_iff]
  simp only [BitVec.ofBool_eq_iff_eq, and_assoc]
  rfl

/-- Bits 21:0 of BPcc and FBPfcc. -/
theorem eq_low22Bp_iff {low : BitVec 22} {cc : BitVec 2} {p : Bool} {disp19 : BitVec 19} :
    low = low22Bp cc p disp19 ↔
      low.extractLsb' 20 2 = cc ∧ low.getLsbD 19 = p ∧ low.extractLsb' 0 19 = disp19 := by
  have hlow : low22Bp (low.extractLsb' 20 2) (low.getLsbD 19) (low.extractLsb' 0 19) = low := by
    unfold low22Bp
    rw [ofBool_getLsbD]
    repeat rw [BitVec.extractLsb'_append_extractLsb'_eq_extractLsb' (by omega)]
    exact BitVec.extractLsb'_eq_self
  conv_lhs => rw [← hlow, low22Bp, low22Bp]
  repeat rw [append_eq_append_iff]
  simp only [BitVec.ofBool_eq_iff_eq, and_assoc]

/-- Bits 21:0 of BPr. -/
theorem eq_low22Bpr_iff {low : BitVec 22} {p : Bool} {rs1 : Reg} {d16 : BitVec 16} :
    low = low22Bpr p rs1 d16 ↔ low.getLsbD 19 = p ∧ low.extractLsb' 14 5 = rs1 ∧
      (low.extractLsb' 20 2 ++ low.extractLsb' 0 14 : BitVec 16) = d16 := by
  have hlow : (low.extractLsb' 20 2 ++ BitVec.ofBool (low.getLsbD 19) ++ low.extractLsb' 14 5 ++
      low.extractLsb' 0 14 : BitVec 22) = low := by
    rw [ofBool_getLsbD]
    repeat rw [BitVec.extractLsb'_append_extractLsb'_eq_extractLsb' (by omega)]
    exact BitVec.extractLsb'_eq_self
  have hd : (d16.extractLsb' 14 2 ++ d16.extractLsb' 0 14 : BitVec 16) = d16 := by
    rw [BitVec.extractLsb'_append_extractLsb'_eq_extractLsb' (by omega)]
    exact BitVec.extractLsb'_eq_self
  conv_lhs => rw [← hlow, low22Bpr]
  conv_rhs => rw [← hd]
  repeat rw [append_eq_append_iff]
  rw [BitVec.ofBool_eq_iff_eq]
  tauto

/-! ### Format 3 and 4 words (R124, R125) -/

theorem eq_fmt3_iff {w : IWord} {op : BitVec 2} {rd : Reg} {op3 : BitVec 6} {rs1 : Reg}
    {low : BitVec 14} :
    w = fmt3 op rd op3 rs1 low ↔
      fOp w = op ∧ fRd w = rd ∧ fOp3 w = op3 ∧ fRs1 w = rs1 ∧ fLow14 w = low := by
  have hw : fmt3 (fOp w) (fRd w) (fOp3 w) (fRs1 w) (fLow14 w) = w := by
    unfold fmt3 fOp fRd fOp3 fRs1 fLow14
    repeat rw [BitVec.extractLsb'_append_extractLsb'_eq_extractLsb' (by omega)]
    exact BitVec.extractLsb'_eq_self
  conv_lhs => rw [← hw, fmt3, fmt3]
  repeat rw [append_eq_append_iff]
  simp only [and_assoc]

section
variable (low : BitVec 14) (i : Bool) (rs2 : Reg)

/-- Bits 13:0 as i, bits 12:5 and rs2: forms (a), (c) and (d). -/
theorem low14_eq_iff (m : BitVec 8) :
    low = (BitVec.ofBool i ++ m ++ rs2 : BitVec 14) ↔
      low.getLsbD 13 = i ∧ low.extractLsb' 5 8 = m ∧ low.extractLsb' 0 5 = rs2 := by
  have hlow : (BitVec.ofBool (low.getLsbD 13) ++ low.extractLsb' 5 8 ++ low.extractLsb' 0 5 :
      BitVec 14) = low := by
    rw [ofBool_getLsbD]
    repeat rw [BitVec.extractLsb'_append_extractLsb'_eq_extractLsb' (by omega)]
    exact BitVec.extractLsb'_eq_self
  conv_lhs => rw [← hlow]
  repeat rw [append_eq_append_iff]
  simp only [BitVec.ofBool_eq_iff_eq, and_assoc]

/-- Bits 13:0 as i and a 13-bit immediate: form (b). -/
theorem low14_eq_imm_iff (imm : BitVec 13) :
    low = (BitVec.ofBool i ++ imm : BitVec 14) ↔
      low.getLsbD 13 = i ∧ low.extractLsb' 0 13 = imm := by
  have hlow : (BitVec.ofBool (low.getLsbD 13) ++ low.extractLsb' 0 13 : BitVec 14) = low := by
    rw [ofBool_getLsbD, BitVec.extractLsb'_append_extractLsb'_eq_extractLsb' (by omega)]
    exact BitVec.extractLsb'_eq_self
  conv_lhs => rw [← hlow]
  repeat rw [append_eq_append_iff]
  simp only [BitVec.ofBool_eq_iff_eq]

/-- Bits 13:0 as i, rcond and a 10-bit immediate: form (f). -/
theorem low14_eq_rcond_imm_iff (rcond : BitVec 3) (imm : BitVec 10) :
    low = (BitVec.ofBool i ++ rcond ++ imm : BitVec 14) ↔
      low.getLsbD 13 = i ∧ low.extractLsb' 10 3 = rcond ∧ low.extractLsb' 0 10 = imm := by
  have hlow : (BitVec.ofBool (low.getLsbD 13) ++ low.extractLsb' 10 3 ++ low.extractLsb' 0 10 :
      BitVec 14) = low := by
    rw [ofBool_getLsbD]
    repeat rw [BitVec.extractLsb'_append_extractLsb'_eq_extractLsb' (by omega)]
    exact BitVec.extractLsb'_eq_self
  conv_lhs => rw [← hlow]
  repeat rw [append_eq_append_iff]
  simp only [BitVec.ofBool_eq_iff_eq, and_assoc]

/-- Bits 13:0 as i, rcond, bits 9:5 and rs2: form (e). -/
theorem low14_eq_rcond_iff (rcond : BitVec 3) (m : BitVec 5) :
    low = (BitVec.ofBool i ++ rcond ++ m ++ rs2 : BitVec 14) ↔
      low.getLsbD 13 = i ∧ low.extractLsb' 10 3 = rcond ∧ low.extractLsb' 5 5 = m ∧
        low.extractLsb' 0 5 = rs2 := by
  have hlow : (BitVec.ofBool (low.getLsbD 13) ++ low.extractLsb' 10 3 ++ low.extractLsb' 5 5 ++
      low.extractLsb' 0 5 : BitVec 14) = low := by
    rw [ofBool_getLsbD]
    repeat rw [BitVec.extractLsb'_append_extractLsb'_eq_extractLsb' (by omega)]
    exact BitVec.extractLsb'_eq_self
  conv_lhs => rw [← hlow]
  repeat rw [append_eq_append_iff]
  simp only [BitVec.ofBool_eq_iff_eq, and_assoc]

end

/-! ### The readers of the operand forms undo their bits (R124) -/

theorem decodeOperand2_eq_some_iff {low : BitVec 14} {v : Operand2} :
    decodeOperand2 low = some v ↔ low = v.bits := by
  unfold decodeOperand2
  cases v with
  | reg rs2 =>
    have hbits : (Operand2.reg rs2).bits = BitVec.ofBool false ++ 0#8 ++ rs2 := rfl
    rw [hbits, low14_eq_iff]
    split <;> simp_all
  | imm simm13 =>
    have hbits : (Operand2.imm simm13).bits = BitVec.ofBool true ++ simm13 := rfl
    rw [hbits, low14_eq_imm_iff]
    split <;> simp_all

theorem decodeAlt_eq_iff {low : BitVec 14} {v : AltOperand} : decodeAlt low = v ↔ low = v.bits := by
  unfold decodeAlt
  cases v with
  | immAsi asi rs2 =>
    have hbits : (AltOperand.immAsi asi rs2).bits = BitVec.ofBool false ++ asi ++ rs2 := rfl
    rw [hbits, low14_eq_iff]
    split <;> simp_all
  | asiReg simm13 =>
    have hbits : (AltOperand.asiReg simm13).bits = BitVec.ofBool true ++ simm13 := rfl
    rw [hbits, low14_eq_imm_iff]
    split <;> simp_all

theorem decodeCasAsi_eq_some_iff {low : BitVec 14} {v : CasAsi} {rs2 : Reg} :
    decodeCasAsi low = some v ∧ low.extractLsb' 0 5 = rs2 ↔ low = v.bits rs2 := by
  unfold decodeCasAsi
  cases v with
  | immAsi asi =>
    have hbits : (CasAsi.immAsi asi).bits rs2 = BitVec.ofBool false ++ asi ++ rs2 := rfl
    rw [hbits, low14_eq_iff]
    split <;> simp_all
  | asiReg =>
    have hbits : CasAsi.asiReg.bits rs2 = BitVec.ofBool true ++ 0#8 ++ rs2 := rfl
    rw [hbits, low14_eq_iff]
    split <;> simp_all

theorem decodeMovrOperand_eq_some_iff {low : BitVec 14} {c : RCond} {v : MovrOperand} :
    RCond.ofBits (low.extractLsb' 10 3) = some c ∧ decodeMovrOperand low = some v ↔
      low = v.bits c := by
  unfold decodeMovrOperand
  rw [RCond.ofBits_eq_some_iff, eq_comm]
  cases v with
  | reg rs2 =>
    have hbits : (MovrOperand.reg rs2).bits c = BitVec.ofBool false ++ c.toBits ++ 0#5 ++ rs2 := rfl
    rw [hbits, low14_eq_rcond_iff]
    split <;> simp_all
  | imm simm10 =>
    have hbits : (MovrOperand.imm simm10).bits c = BitVec.ofBool true ++ c.toBits ++ simm10 := rfl
    rw [hbits, low14_eq_rcond_imm_iff]
    split <;> simp_all

/-! ### Selectors and conditions inside their fields (R134, R137) -/

/-- BPcc holds its selector in cc1, and cc0 is 0. -/
theorem eq_ccSel_iff {low : BitVec 22} {cc : CcSel} :
    low.extractLsb' 20 2 = cc.toBits ↔
      low.getLsbD 20 = false ∧ (if low.getLsbD 21 then CcSel.xcc else .icc) = cc := by
  have hbits : ∀ x : BitVec 2,
      x = cc.toBits ↔ x.getLsbD 0 = false ∧ (if x.getLsbD 1 then CcSel.xcc else .icc) = cc := by
    cases cc <;> decide
  rw [hbits, BitVec.getLsbD_extractLsb', BitVec.getLsbD_extractLsb']
  rfl

/-- BPr holds rcond in the low three bits of cond, and bit 28 is 0. -/
theorem eq_rcond_iff {cond : BitVec 4} {c : RCond} :
    cond = (0#1 ++ c.toBits : BitVec 4) ↔
      cond.getLsbD 3 = false ∧ RCond.ofBits (cond.extractLsb' 0 3) = some c := by
  cases c <;> decide +revert

/-- FMOVcc holds cond in the low four bits of rs1's field, and bit 18 is 0. -/
theorem eq_fmovCond_iff {rs1 : Reg} {cond : BitVec 4} :
    rs1 = (0#1 ++ cond : BitVec 5) ↔ rs1.getLsbD 4 = false ∧ rs1.extractLsb' 0 4 = cond := by
  decide +revert

/-- opf_cc of FMOVcc on a floating-point condition code. -/
theorem eq_fmovFcc_iff {low : BitVec 14} {sel : FccSel} :
    low.extractLsb' 11 3 = (0#1 ++ sel.toBits : BitVec 3) ↔
      low.getLsbD 13 = false ∧ FccSel.ofBits (low.extractLsb' 11 2) = sel := by
  have hbits : ∀ x : BitVec 3, x = (0#1 ++ sel.toBits : BitVec 3) ↔
      x.getLsbD 2 = false ∧ FccSel.ofBits (x.extractLsb' 0 2) = sel := by
    cases sel <;> decide
  rw [hbits, BitVec.getLsbD_extractLsb', extractLsb'_extractLsb' low (by omega)]
  rfl

/-- opf_cc of FMOVcc on an integer condition code. -/
theorem eq_fmovIcc_iff {low : BitVec 14} {sel : CcSel} :
    low.extractLsb' 11 3 = sel.opfcc ↔ low.getLsbD 13 = true ∧ low.getLsbD 11 = false ∧
      (if low.getLsbD 12 then CcSel.xcc else .icc) = sel := by
  have hbits : ∀ x : BitVec 3, x = sel.opfcc ↔ x.getLsbD 2 = true ∧ x.getLsbD 0 = false ∧
      (if x.getLsbD 1 then CcSel.xcc else .icc) = sel := by
    cases sel <;> decide
  rw [hbits]
  repeat rw [BitVec.getLsbD_extractLsb']
  rfl

/-- Bits 13:0 of FMOVcc: opf_cc, opf_low and rs2. -/
theorem low14_eq_fmovcc_iff {low : BitVec 14} {opfcc : BitVec 3} {size : FpSize} {rs2 : Reg} :
    low = (opfcc ++ 0#4 ++ size.toBits ++ rs2 : BitVec 14) ↔
      low.extractLsb' 11 3 = opfcc ∧ low.extractLsb' 7 4 = 0 ∧
        FpSize.ofBits (low.extractLsb' 5 2) = some size ∧ low.extractLsb' 0 5 = rs2 := by
  have hlow : (low.extractLsb' 11 3 ++ low.extractLsb' 7 4 ++ low.extractLsb' 5 2 ++
      low.extractLsb' 0 5 : BitVec 14) = low := by
    repeat rw [BitVec.extractLsb'_append_extractLsb'_eq_extractLsb' (by omega)]
    exact BitVec.extractLsb'_eq_self
  conv_lhs => rw [← hlow]
  repeat rw [append_eq_append_iff]
  rw [FpSize.ofBits_eq_some_iff, eq_comm (a := size.toBits)]
  simp only [and_assoc]
  rfl

/-- Bits 13:0 of FMOVr: rcond, opf_low and rs2, bit 13 zero. -/
theorem low14_eq_fmovr_iff {low : BitVec 14} {c : RCond} {size : FpSize} {rs2 : Reg} :
    low = (0#1 ++ c.toBits ++ 1#3 ++ size.toBits ++ rs2 : BitVec 14) ↔
      low.getLsbD 13 = false ∧ RCond.ofBits (low.extractLsb' 10 3) = some c ∧
        low.extractLsb' 7 3 = 1 ∧ FpSize.ofBits (low.extractLsb' 5 2) = some size ∧
        low.extractLsb' 0 5 = rs2 := by
  have hlow : (BitVec.ofBool (low.getLsbD 13) ++ low.extractLsb' 10 3 ++ low.extractLsb' 7 3 ++
      low.extractLsb' 5 2 ++ low.extractLsb' 0 5 : BitVec 14) = low := by
    rw [ofBool_getLsbD]
    repeat rw [BitVec.extractLsb'_append_extractLsb'_eq_extractLsb' (by omega)]
    exact BitVec.extractLsb'_eq_self
  conv_lhs => rw [← hlow, show 0#1 = BitVec.ofBool false from rfl]
  repeat rw [append_eq_append_iff]
  rw [BitVec.ofBool_eq_iff_eq, FpSize.ofBits_eq_some_iff, eq_comm (a := size.toBits),
    RCond.ofBits_eq_some_iff, eq_comm (a := c.toBits)]
  simp only [and_assoc]
  rfl

end Sys2Proof
end

section
/-! SUPPORT. The family 30_encoding: the decoder undoes the encoder (R120 to R137). -/

namespace Sys2Proof

/-! ### The parts of the decoder by op (R121) -/

theorem decode_of_op_zero {w : IWord} (h : fOp w = 0) : decode w = decodeFormat2 w := by
  rw [decode, h]
  rfl

theorem decode_of_op_one {w : IWord} (h : fOp w = 1) :
    decode w = .stop (.outOfScope "CALL") := by
  rw [decode, h]
  rfl

theorem decode_of_op_two {w : IWord} (h : fOp w = 2) : decode w = decodeArith w := by
  rw [decode, h]
  rfl

theorem decode_of_op_three {w : IWord} (h : fOp w = 3) : decode w = decodeMem w := by
  rw [decode, h]
  rfl

/-! ### What the decoder reads in the bits the encoder writes -/

theorem fields_fmt2 (a : Bool) (cond : BitVec 4) (op2 : BitVec 3) (low : BitVec 22) :
    fOp (fmt2 a cond op2 low) = 0 ∧ fA (fmt2 a cond op2 low) = a ∧
      fCond (fmt2 a cond op2 low) = cond ∧ fOp2 (fmt2 a cond op2 low) = op2 ∧
      fLow22 (fmt2 a cond op2 low) = low := eq_fmt2_iff.1 rfl

theorem fields_fmt3 (op : BitVec 2) (rd : Reg) (op3 : BitVec 6) (rs1 : Reg) (low : BitVec 14) :
    fOp (fmt3 op rd op3 rs1 low) = op ∧ fRd (fmt3 op rd op3 rs1 low) = rd ∧
      fOp3 (fmt3 op rd op3 rs1 low) = op3 ∧ fRs1 (fmt3 op rd op3 rs1 low) = rs1 ∧
      fLow14 (fmt3 op rd op3 rs1 low) = low := eq_fmt3_iff.1 rfl

@[simp] theorem decodeOperand2_bits (v : Operand2) : decodeOperand2 v.bits = some v :=
  decodeOperand2_eq_some_iff.2 rfl

@[simp] theorem decodeAlt_bits (v : AltOperand) : decodeAlt v.bits = v := decodeAlt_eq_iff.2 rfl

@[simp] theorem decodeCasAsi_bits (v : CasAsi) (rs2 : Reg) :
    decodeCasAsi (v.bits rs2) = some v ∧ (v.bits rs2).extractLsb' 0 5 = rs2 :=
  decodeCasAsi_eq_some_iff.2 rfl

/-- The immediate form's bits, as SIR has them. -/
@[simp] theorem imm_fields (simm13 : BitVec 13) : (1#1 ++ simm13 : BitVec 14).getLsbD 13 = true ∧
    (1#1 ++ simm13 : BitVec 14).extractLsb' 0 13 = simm13 := (low14_eq_imm_iff _ true _).1 rfl

@[simp] theorem withOperand_some {α : Type} (v : α) (stop : DecodeStop) (k : α → Instr) :
    withOperand (some v) stop k = .instr (k v) := rfl

/-! ### RDASR and WRASR of a register that does not exist (R280, R289) -/

theorem decodeRdasr_nonexistent (rd : Reg) {rs1 : Reg} (low : BitVec 14)
    (h : rs1.toNat = 1 ∨ (7 ≤ rs1.toNat ∧ rs1.toNat ≠ 15)) :
    decodeRdasr rd rs1 low =
      if 16 ≤ rs1.toNat ∧ low = 0 then .instr (.rdasr16_31 rd rs1) else .stop .illegal := by
  unfold decodeRdasr
  dsimp only
  split
  case h_8 => rfl
  all_goals omega

theorem decodeWrasr_nonexistent {rd : Reg} (rs1 : Reg) (low : BitVec 14)
    (h : rd.toNat = 1 ∨ rd.toNat = 4 ∨ rd.toNat = 5 ∨ (7 ≤ rd.toNat ∧ rd.toNat ≠ 15)) :
    decodeWrasr rd rs1 low =
      if 16 ≤ rd.toNat then withOperand (decodeOperand2 low) .illegal (.wrasr16_31 rd rs1)
      else .stop .illegal := by
  unfold decodeWrasr
  dsimp only
  split
  case h_6 => rfl
  all_goals omega

/-! ### Rows made from a condition or a selector -/

theorem decode_bicc (c : ICond) (a : Bool) (d : BitVec 22) :
    decode (fmt2 a c.toBits 2 d) = .instr (mkBicc c a d) := by
  simp [decode, decodeFormat2, fields_fmt2]

theorem decode_bpcc (c : ICond) (a : Bool) (cc : CcSel) (p : Bool) (d : BitVec 19) :
    decode (fmt2 a c.toBits 1 (low22Bp cc.toBits p d)) = .instr (mkBpcc c a cc p d) := by
  obtain ⟨hcc, hp, hd⟩ := eq_low22Bp_iff.1 (rfl : low22Bp cc.toBits p d = _)
  obtain ⟨hcc0, hcc1⟩ := eq_ccSel_iff.1 hcc
  simp only [decode, decodeFormat2, fields_fmt2, hcc0, hcc1, hp, hd]
  simp

theorem decode_bpr (c : RCond) (a p : Bool) (rs1 : Reg) (d : BitVec 16) :
    decode (fmt2 a (0#1 ++ c.toBits : BitVec 4) 3 (low22Bpr p rs1 d)) =
      .instr (mkBpr c a p rs1 d) := by
  obtain ⟨hp, hrs1, hd⟩ := eq_low22Bpr_iff.1 (rfl : low22Bpr p rs1 d = _)
  obtain ⟨hbit, hc⟩ := eq_rcond_iff.1 (rfl : (0#1 ++ c.toBits : BitVec 4) = _)
  simp only [decode, decodeFormat2, fields_fmt2, hbit, hc, hp, hrs1, hd]
  simp

theorem decode_fbfcc (c : FCond) (a : Bool) (d : BitVec 22) :
    decode (fmt2 a c.toBits 6 d) = .instr (mkFbfcc c a d) := by
  simp [decode, decodeFormat2, fields_fmt2]

theorem decode_fbpfcc (c : FCond) (a : Bool) (cc : FccSel) (p : Bool) (d : BitVec 19) :
    decode (fmt2 a c.toBits 5 (low22Bp cc.toBits p d)) = .instr (mkFbpfcc c a cc p d) := by
  obtain ⟨hcc, hp, hd⟩ := eq_low22Bp_iff.1 (rfl : low22Bp cc.toBits p d = _)
  simp only [decode, decodeFormat2, fields_fmt2, hcc, hp, hd]
  simp

theorem decode_movr (c : RCond) (rd rs1 : Reg) (v : MovrOperand) :
    decode (fmt3 2 rd 0x2F rs1 (v.bits c)) = .instr (mkMovr c rd rs1 v) := by
  obtain ⟨hc, hv⟩ := decodeMovrOperand_eq_some_iff.2 (rfl : v.bits c = _)
  simp [decode, decodeArith, decodeMovr, fields_fmt3, hc, hv]

/-- FMOVcc's words are none of FMOVr's: bits 9:7 are 000, not 001 (R137). -/
theorem decodeFpop2_fmovcc (size : FpSize) (opfcc : BitVec 3) (cond : BitVec 4) (rd rs2 : Reg) :
    decodeFpop2 rd (0#1 ++ cond : BitVec 5) (opfcc ++ 0#4 ++ size.toBits ++ rs2 : BitVec 14) =
      decodeFmovcc rd (0#1 ++ cond : BitVec 5) (opfcc ++ 0#4 ++ size.toBits ++ rs2 : BitVec 14)
        size := by
  obtain ⟨-, hlow, hsize, -⟩ :=
    low14_eq_fmovcc_iff.1 (rfl : (opfcc ++ 0#4 ++ size.toBits ++ rs2 : BitVec 14) = _)
  obtain ⟨hbit18, -⟩ := eq_fmovCond_iff.1 (rfl : (0#1 ++ cond : BitVec 5) = _)
  have hnot : (opfcc ++ 0#4 ++ size.toBits ++ rs2 : BitVec 14).extractLsb' 7 3 = 0 := by
    have h := congrArg (BitVec.extractLsb' 0 3) hlow
    rwa [extractLsb'_extractLsb' _ (by omega)] at h
  simp only [decodeFpop2, hsize, hnot, hlow, hbit18]
  rfl

theorem decode_fmovFcc (size : FpSize) (sel : FccSel) (c : FCond) (rd rs2 : Reg) :
    decode (encFmovcc size (0#1 ++ sel.toBits : BitVec 3) c.toBits rd rs2) =
      .instr (mkFmovFcc size sel c rd rs2) := by
  obtain ⟨hopfcc, -, -, hrs2⟩ := low14_eq_fmovcc_iff.1
    (rfl : (0#1 ++ sel.toBits ++ 0#4 ++ size.toBits ++ rs2 : BitVec 14) = _)
  obtain ⟨hbit13, hsel⟩ := eq_fmovFcc_iff.1 hopfcc
  obtain ⟨-, hcond⟩ := eq_fmovCond_iff.1 (rfl : (0#1 ++ c.toBits : BitVec 5) = _)
  rw [encFmovcc, decode_of_op_two (fields_fmt3 ..).1]
  simp only [decodeArith, fields_fmt3]
  refine (decodeFpop2_fmovcc ..).trans ?_
  simp only [decodeFmovcc, hbit13, hsel, hcond, hrs2, FCond.ofBits_toBits]
  rfl

theorem decode_fmovIcc (size : FpSize) (sel : CcSel) (c : ICond) (rd rs2 : Reg) :
    decode (encFmovcc size sel.opfcc c.toBits rd rs2) = .instr (mkFmovIcc size sel c rd rs2) := by
  obtain ⟨hopfcc, -, -, hrs2⟩ := low14_eq_fmovcc_iff.1
    (rfl : (sel.opfcc ++ 0#4 ++ size.toBits ++ rs2 : BitVec 14) = _)
  obtain ⟨hbit13, hbit11, hsel⟩ := eq_fmovIcc_iff.1 hopfcc
  obtain ⟨-, hcond⟩ := eq_fmovCond_iff.1 (rfl : (0#1 ++ c.toBits : BitVec 5) = _)
  rw [encFmovcc, decode_of_op_two (fields_fmt3 ..).1]
  simp only [decodeArith, fields_fmt3]
  refine (decodeFpop2_fmovcc ..).trans ?_
  simp only [decodeFmovcc, hbit13, hbit11, hsel, hcond, hrs2, ICond.ofBits_toBits]
  rfl

theorem decode_fmovr (size : FpSize) (c : RCond) (rd rs1 rs2 : Reg) :
    decode (encFmovr size c rd rs1 rs2) = .instr (mkFmovr size c rd rs1 rs2) := by
  obtain ⟨hbit13, hc, hone, hsize, hrs2⟩ := low14_eq_fmovr_iff.1
    (rfl : (0#1 ++ c.toBits ++ 1#3 ++ size.toBits ++ rs2 : BitVec 14) = _)
  rw [encFmovr, decode_of_op_two (fields_fmt3 ..).1]
  simp only [decodeArith, fields_fmt3, decodeFpop2, decodeFmovr, hbit13, hc, hone, hsize, hrs2]
  rfl

/-! ### Every row -/

theorem decode_encode {i : Instr} (hwf : i.wf = true) : decode (encode i) = .instr i := by
  cases i
  case bn | be | ble | bl | bleu | bcs | bneg | bvs | ba | bne | bg | bge | bgu | bcc | bpos | bvc =>
    exact decode_bicc _ _ _
  case bpn | bpe | bple | bpl | bpleu | bpcs | bpneg | bpvs | bpa | bpne | bpg | bpge | bpgu | bpcc |
      bppos | bpvc => exact decode_bpcc _ _ _ _ _
  case brz | brlez | brlz | brnz | brgz | brgez => exact decode_bpr _ _ _ _ _
  case fbn | fbne | fblg | fbul | fbl | fbug | fbg | fbu | fba | fbe | fbue | fbge | fbuge | fble |
      fbule | fbo => exact decode_fbfcc _ _ _
  case fbpn | fbpne | fbplg | fbpul | fbpl | fbpug | fbpg | fbpu | fbpa | fbpe | fbpue | fbpge |
      fbpuge | fbple | fbpule | fbpo => exact decode_fbpfcc _ _ _ _ _
  case fmovscc_fcc0 | fmovscc_fcc1 | fmovscc_fcc2 | fmovscc_fcc3 | fmovdcc_fcc0 | fmovdcc_fcc1 |
      fmovdcc_fcc2 | fmovdcc_fcc3 | fmovqcc_fcc0 | fmovqcc_fcc1 | fmovqcc_fcc2 | fmovqcc_fcc3 =>
    exact decode_fmovFcc _ _ _ _ _
  case fmovscc_icc | fmovscc_xcc | fmovdcc_icc | fmovdcc_xcc | fmovqcc_icc | fmovqcc_xcc =>
    exact decode_fmovIcc _ _ _ _ _
  case fmovrsz | fmovrslez | fmovrslz | fmovrsnz | fmovrsgz | fmovrsgez | fmovrdz | fmovrdlez |
      fmovrdlz | fmovrdnz | fmovrdgz | fmovrdgez | fmovrqz | fmovrqlez | fmovrqlz | fmovrqnz |
      fmovrqgz | fmovrqgez => exact decode_fmovr _ _ _ _ _
  case movrz | movrlez | movrlz | movrnz | movrgz | movrgez => exact decode_movr _ _ _ _
  case nop => rfl
  case rdasr16_31 rd rs1 =>
    have hrs1 : 16 ≤ rs1.toNat := of_decide_eq_true hwf
    rw [encode, decode_of_op_two (fields_fmt3 ..).1]
    simp only [decodeArith, fields_fmt3]
    exact (decodeRdasr_nonexistent rd 0 (by omega)).trans (if_pos ⟨hrs1, rfl⟩)
  case wrasr16_31 rd rs1 op2 =>
    have hrd : 16 ≤ rd.toNat := of_decide_eq_true hwf
    rw [encode, decode_of_op_two (fields_fmt3 ..).1]
    simp only [decodeArith, fields_fmt3]
    refine (decodeWrasr_nonexistent rs1 op2.bits (by omega)).trans ((if_pos hrd).trans ?_)
    rw [decodeOperand2_bits, withOperand_some]
  case rdy | rdccr | rdasi | rdtick | rdpc | rdfprs | wry | wrccr | wrasi | wrfprs | sir | rdpr |
      wrpr | save | restore | saved | restored | taddcc | taddcctv =>
    rw [encode, decode_of_op_two (fields_fmt3 ..).1]
    simp [decodeArith, fields_fmt3, decodeRdasr, decodeWrasr, decodeSaved, decodeRdpr, decodeWrpr]
  case casa | casxa | swap | ldf | lddf | ldqf | ldfsr | ldxfsr | ldd | ldda | stb | sth | stw | stx |
      std | stba | stha | stwa | stxa | stda =>
    rw [encode, decode_of_op_three (fields_fmt3 ..).1]
    simp [decodeMem, fields_fmt3, decodeLdfsr]

/-- Settles O1: row by row, from what the decoder reads in the bits the encoder writes. -/
theorem decodeUndoesEncode : Obligations.DecodeUndoesEncode := fun _ => decode_encode

end Sys2Proof
end

section
/-! SUPPORT. The family 30_encoding: the encoder undoes the decoder (R135, R137). -/

namespace Sys2Proof

/-! ### The words of the rows made from a condition or a selector -/

theorem encode_mkBicc (c : ICond) (a : Bool) (d : BitVec 22) :
    encode (mkBicc c a d) = fmt2 a c.toBits 2 d := by cases c <;> rfl

theorem encode_mkBpcc (c : ICond) (a : Bool) (cc : CcSel) (p : Bool) (d : BitVec 19) :
    encode (mkBpcc c a cc p d) = fmt2 a c.toBits 1 (low22Bp cc.toBits p d) := by cases c <;> rfl

theorem encode_mkBpr (c : RCond) (a p : Bool) (rs1 : Reg) (d : BitVec 16) :
    encode (mkBpr c a p rs1 d) = fmt2 a (0#1 ++ c.toBits : BitVec 4) 3 (low22Bpr p rs1 d) := by
  cases c <;> rfl

theorem encode_mkFbfcc (c : FCond) (a : Bool) (d : BitVec 22) :
    encode (mkFbfcc c a d) = fmt2 a c.toBits 6 d := by cases c <;> rfl

theorem encode_mkFbpfcc (c : FCond) (a : Bool) (cc : FccSel) (p : Bool) (d : BitVec 19) :
    encode (mkFbpfcc c a cc p d) = fmt2 a c.toBits 5 (low22Bp cc.toBits p d) := by cases c <;> rfl

theorem encode_mkFmovFcc (size : FpSize) (sel : FccSel) (c : FCond) (rd rs2 : Reg) :
    encode (mkFmovFcc size sel c rd rs2) =
      encFmovcc size (0#1 ++ sel.toBits : BitVec 3) c.toBits rd rs2 := by
  cases size <;> cases sel <;> rfl

theorem encode_mkFmovIcc (size : FpSize) (sel : CcSel) (c : ICond) (rd rs2 : Reg) :
    encode (mkFmovIcc size sel c rd rs2) = encFmovcc size sel.opfcc c.toBits rd rs2 := by
  cases size <;> cases sel <;> rfl

theorem encode_mkFmovr (size : FpSize) (c : RCond) (rd rs1 rs2 : Reg) :
    encode (mkFmovr size c rd rs1 rs2) = encFmovr size c rd rs1 rs2 := by
  cases size <;> cases c <;> rfl

theorem encode_mkMovr (c : RCond) (rd rs1 : Reg) (v : MovrOperand) :
    encode (mkMovr c rd rs1 v) = fmt3 2 rd 0x2F rs1 (v.bits c) := by cases c <;> rfl

/-! ### What a word decodes to is encoded as the word -/

/-- What the word decodes to, if it is an instruction, is encoded as the word. -/
def Decoded.EncodedAs (w : IWord) (d : Decoded) : Prop := ∀ i, d = .instr i → w = encode i

section
variable {w : IWord}

theorem Decoded.EncodedAs.stop (d : DecodeStop) : (Decoded.stop d).EncodedAs w :=
  fun _ h => nomatch h

theorem Decoded.EncodedAs.instr {i : Instr} (h : w = encode i) : (Decoded.instr i).EncodedAs w := by
  rintro _ ⟨⟩
  exact h

theorem Decoded.EncodedAs.ite {c : Prop} [Decidable c] {d d' : Decoded} (h : c → d.EncodedAs w)
    (h' : ¬ c → d'.EncodedAs w) : (if c then d else d').EncodedAs w := by
  split
  case isTrue hc => exact h hc
  case isFalse hc => exact h' hc

theorem Decoded.EncodedAs.withOperand {α : Type} {o : Option α} (stop : DecodeStop) {k : α → Instr}
    (h : ∀ v, o = some v → w = encode (k v)) : (withOperand o stop k).EncodedAs w := by
  cases o with
  | none => exact .stop stop
  | some v => exact .instr (h v rfl)

/-- A row of forms (a) and (b). -/
theorem Decoded.EncodedAs.operand2 {op : BitVec 2} {rd : Reg} {op3 : BitVec 6} {rs1 : Reg}
    {low : BitVec 14} (stop : DecodeStop) {k : Operand2 → Instr} (hw : w = fmt3 op rd op3 rs1 low)
    (h : ∀ v, encode (k v) = fmt3 op rd op3 rs1 v.bits) :
    (Sys2Proof.withOperand (decodeOperand2 low) stop k).EncodedAs w :=
  .withOperand stop fun v hv => by rw [hw, h, decodeOperand2_eq_some_iff.1 hv]

/-- A word from its op and op3 and the rest of its fields. -/
theorem eq_fmt3_of_op3 {op : BitVec 2} {n : Nat} (hop : fOp w = op) (hop3 : (fOp3 w).toNat = n) :
    w = fmt3 op (fRd w) (BitVec.ofNat 6 n) (fRs1 w) (fLow14 w) := by
  subst hop hop3
  rw [BitVec.ofNat_toNat, BitVec.setWidth_eq]
  exact eq_fmt3_iff.2 ⟨rfl, rfl, rfl, rfl, rfl⟩

theorem eq_ofNat_of_toNat_eq {k n : Nat} {x : BitVec k} (h : x.toNat = n) : x = BitVec.ofNat k n := by
  subst h
  rw [BitVec.ofNat_toNat, BitVec.setWidth_eq]

/-- rd's field of a format 2 word is a and cond together (R122, R123). -/
theorem fRd_eq_zero_iff : fRd w = 0 ↔ fA w = false ∧ fCond w = 0 := by
  have hrd : fRd w = (BitVec.ofBool (fA w) ++ fCond w : BitVec 5) := by
    unfold fRd fA fCond
    rw [ofBool_getLsbD, BitVec.extractLsb'_append_extractLsb'_eq_extractLsb' (by omega)]
  have hzero : (0 : Reg) = (BitVec.ofBool false ++ 0#4 : BitVec 5) := rfl
  rw [hrd, hzero, append_eq_append_iff, BitVec.ofBool_eq_iff_eq]
  rfl

theorem decodeFormat2_encodedAs (hop : fOp w = 0) : (decodeFormat2 w).EncodedAs w := by
  unfold decodeFormat2
  dsimp only
  split
  case h_2 hop2 =>
    refine .ite (fun _ => .stop _) fun hcc0 => .instr ?_
    rw [encode_mkBpcc, eq_fmt2_iff, eq_low22Bp_iff, eq_ccSel_iff, ICond.toBits_ofBits]
    exact ⟨hop, rfl, rfl, eq_ofNat_of_toNat_eq hop2, ⟨Bool.eq_false_iff.2 hcc0, rfl⟩, rfl, rfl⟩
  case h_3 hop2 =>
    refine .instr ?_
    rw [encode_mkBicc, eq_fmt2_iff, ICond.toBits_ofBits]
    exact ⟨hop, rfl, rfl, eq_ofNat_of_toNat_eq hop2, rfl⟩
  case h_4 hop2 =>
    refine .ite (fun _ => .stop _) fun hbit28 => ?_
    split
    case h_1 => exact .stop _
    case h_2 c hc =>
      refine .instr ?_
      rw [encode_mkBpr, eq_fmt2_iff, eq_rcond_iff, eq_low22Bpr_iff]
      exact ⟨hop, rfl, ⟨Bool.eq_false_iff.2 hbit28, hc⟩, eq_ofNat_of_toNat_eq hop2, rfl, rfl, rfl⟩
  case h_5 hop2 =>
    refine .ite ?_ fun _ => .stop _
    rintro ⟨hrd, hlow⟩
    obtain ⟨ha, hcond⟩ := fRd_eq_zero_iff.1 hrd
    exact .instr (eq_fmt2_iff.2 ⟨hop, ha, hcond, eq_ofNat_of_toNat_eq hop2, hlow⟩)
  case h_6 hop2 =>
    refine .instr ?_
    rw [encode_mkFbpfcc, eq_fmt2_iff, eq_low22Bp_iff, FCond.toBits_ofBits, FccSel.toBits_ofBits]
    exact ⟨hop, rfl, rfl, eq_ofNat_of_toNat_eq hop2, rfl, rfl, rfl⟩
  case h_7 hop2 =>
    refine .instr ?_
    rw [encode_mkFbfcc, eq_fmt2_iff, FCond.toBits_ofBits]
    exact ⟨hop, rfl, rfl, eq_ofNat_of_toNat_eq hop2, rfl⟩
  all_goals exact .stop _

section
variable {rd rs1 : Reg} {low : BitVec 14}

theorem decodeRdasr_encodedAs (hw : w = fmt3 2 rd 0x28 rs1 low) :
    (decodeRdasr rd rs1 low).EncodedAs w := by
  unfold decodeRdasr
  dsimp only
  split
  case h_7 => exact .stop _
  case h_8 => exact .ite (fun h => .instr (by rw [hw, h.2]; rfl)) fun _ => .stop _
  all_goals
    rename_i hrs1
    exact .ite (fun hlow => .instr (by rw [hw, hlow, eq_ofNat_of_toNat_eq hrs1]; rfl)) fun _ =>
      .stop _

theorem decodeWrasr_encodedAs (hw : w = fmt3 2 rd 0x30 rs1 low) :
    (decodeWrasr rd rs1 low).EncodedAs w := by
  unfold decodeWrasr
  dsimp only
  split
  case h_5 hrd =>
    refine .ite ?_ fun _ => .stop _
    rintro ⟨hrs1, hi⟩
    have hlow : low = (1#1 ++ low.extractLsb' 0 13 : BitVec 14) :=
      (low14_eq_imm_iff low true _).2 ⟨hi, rfl⟩
    refine .instr ?_
    rw [hw, eq_ofNat_of_toNat_eq hrd, hrs1, encode, ← hlow]
    rfl
  case h_6 => exact .ite (fun _ => .operand2 _ hw fun _ => rfl) fun _ => .stop _
  all_goals
    rename_i hrd
    rw [eq_ofNat_of_toNat_eq hrd] at hw
    exact .operand2 _ hw fun _ => rfl

theorem decodeSaved_encodedAs {fcn : Reg} (hw : w = fmt3 2 fcn 0x31 rs1 low) :
    (decodeSaved fcn rs1 low).EncodedAs w := by
  unfold decodeSaved
  split
  case h_3 => exact .stop _
  all_goals
    rename_i hfcn
    refine .ite ?_ fun _ => .stop _
    rintro ⟨rfl, rfl⟩
    rw [eq_ofNat_of_toNat_eq hfcn] at hw
    exact .instr hw

theorem decodeRdpr_encodedAs (hw : w = fmt3 2 rd 0x2A rs1 low) : (decodeRdpr rd rs1 low).EncodedAs w :=
  .ite (fun hlow => .instr (by rw [hw, hlow]; rfl)) fun _ => .stop _

theorem decodeWrpr_encodedAs (hw : w = fmt3 2 rd 0x32 rs1 low) : (decodeWrpr rd rs1 low).EncodedAs w :=
  .operand2 _ hw fun _ => rfl

theorem decodeMovr_encodedAs (hw : w = fmt3 2 rd 0x2F rs1 low) :
    (decodeMovr rd rs1 low).EncodedAs w := by
  unfold decodeMovr
  split
  case h_1 => exact .stop _
  case h_2 c hc =>
    refine .withOperand _ fun v hv => ?_
    rw [encode_mkMovr, hw, decodeMovrOperand_eq_some_iff.1 ⟨hc, hv⟩]

theorem decodeFmovcc_encodedAs {size : FpSize} (hw : w = fmt3 2 rd 0x35 rs1 low)
    (hsize : FpSize.ofBits (low.extractLsb' 5 2) = some size) (hlow : low.extractLsb' 7 4 = 0)
    (hbit18 : rs1.getLsbD 4 = false) : (decodeFmovcc rd rs1 low size).EncodedAs w := by
  have hrs1 : rs1 = (0#1 ++ rs1.extractLsb' 0 4 : BitVec 5) := eq_fmovCond_iff.2 ⟨hbit18, rfl⟩
  have hrow {opfcc : BitVec 3} (hopfcc : low.extractLsb' 11 3 = opfcc) :
      w = encFmovcc size opfcc (rs1.extractLsb' 0 4) rd (low.extractLsb' 0 5) := by
    rw [encFmovcc, ← hrs1, ← low14_eq_fmovcc_iff.2 ⟨hopfcc, hlow, hsize, rfl⟩, hw]
  refine .ite (fun hbit13 => .instr ?_) fun hbit13 => .ite (fun _ => .stop _) fun hbit11 => .instr ?_
  · rw [encode_mkFmovFcc, FCond.toBits_ofBits]
    exact hrow (eq_fmovFcc_iff.2 ⟨by simpa using hbit13, rfl⟩)
  · rw [encode_mkFmovIcc, ICond.toBits_ofBits]
    exact hrow (eq_fmovIcc_iff.2 ⟨by simpa using hbit13, Bool.eq_false_iff.2 hbit11, rfl⟩)

theorem decodeFmovr_encodedAs {size : FpSize} (hw : w = fmt3 2 rd 0x35 rs1 low)
    (hsize : FpSize.ofBits (low.extractLsb' 5 2) = some size) (hlow : low.extractLsb' 7 3 = 1)
    (hbit13 : low.getLsbD 13 = false) : (decodeFmovr rd rs1 low size).EncodedAs w := by
  unfold decodeFmovr
  split
  case h_1 => exact .stop _
  case h_2 c hc =>
    refine .instr ?_
    rw [encode_mkFmovr, encFmovr, ← low14_eq_fmovr_iff.2 ⟨hbit13, hc, hlow, hsize, rfl⟩, hw]

theorem decodeFpop2_encodedAs (hw : w = fmt3 2 rd 0x35 rs1 low) :
    (decodeFpop2 rd rs1 low).EncodedAs w := by
  unfold decodeFpop2
  split
  case h_1 => exact .stop _
  case h_2 size hsize =>
    exact .ite (fun h => decodeFmovr_encodedAs hw hsize h.1 h.2) fun _ =>
      .ite (fun h => decodeFmovcc_encodedAs hw hsize h.1 h.2) fun _ => .stop _

theorem decodeLdfsr_encodedAs (hw : w = fmt3 3 rd 0x21 rs1 low) :
    (decodeLdfsr rd rs1 low).EncodedAs w := by
  unfold decodeLdfsr
  split
  case h_3 => exact .stop _
  all_goals
    rename_i hrd
    rw [eq_ofNat_of_toNat_eq hrd] at hw
    exact .operand2 _ hw fun _ => rfl

end

theorem decodeArith_encodedAs (hop : fOp w = 2) : (decodeArith w).EncodedAs w := by
  unfold decodeArith
  dsimp only
  split
  case h_1 hop3 | h_3 hop3 | h_14 hop3 | h_15 hop3 =>
    exact .operand2 _ (eq_fmt3_of_op3 hop hop3) fun _ => rfl
  case h_5 hop3 => exact decodeRdasr_encodedAs (eq_fmt3_of_op3 hop hop3)
  case h_6 hop3 => exact decodeRdpr_encodedAs (eq_fmt3_of_op3 hop hop3)
  case h_7 hop3 => exact decodeMovr_encodedAs (eq_fmt3_of_op3 hop hop3)
  case h_8 hop3 => exact decodeWrasr_encodedAs (eq_fmt3_of_op3 hop hop3)
  case h_9 hop3 => exact decodeSaved_encodedAs (eq_fmt3_of_op3 hop hop3)
  case h_10 hop3 => exact decodeWrpr_encodedAs (eq_fmt3_of_op3 hop hop3)
  case h_11 hop3 => exact decodeFpop2_encodedAs (eq_fmt3_of_op3 hop hop3)
  all_goals exact .stop _

theorem decodeMem_encodedAs (hop : fOp w = 3) : (decodeMem w).EncodedAs w := by
  unfold decodeMem
  dsimp only
  split
  case h_8 hop3 | h_9 hop3 | h_10 hop3 | h_11 hop3 | h_12 hop3 | h_13 hop3 =>
    have hw := eq_fmt3_of_op3 hop hop3
    rw [decodeAlt_eq_iff.1 (rfl : decodeAlt (fLow14 w) = _)] at hw
    exact .instr hw
  case h_15 hop3 => exact decodeLdfsr_encodedAs (eq_fmt3_of_op3 hop hop3)
  case h_18 hop3 | h_19 hop3 =>
    refine .withOperand _ fun v hv => ?_
    have hw := eq_fmt3_of_op3 hop hop3
    rwa [decodeCasAsi_eq_some_iff.1 ⟨hv, rfl⟩] at hw
  case h_20 => exact .stop _
  all_goals
    rename_i hop3
    exact .operand2 _ (eq_fmt3_of_op3 hop hop3) fun _ => rfl

end

theorem encode_of_decode {w : IWord} {i : Instr} (h : decode w = .instr i) : encode i = w := by
  have hw : (decode w).EncodedAs w := by
    have hop : ∀ op : BitVec 2, op = 0 ∨ op = 1 ∨ op = 2 ∨ op = 3 := by decide
    rcases hop (fOp w) with hop | hop | hop | hop
    · exact decode_of_op_zero hop ▸ decodeFormat2_encodedAs hop
    · exact decode_of_op_one hop ▸ .stop _
    · exact decode_of_op_two hop ▸ decodeArith_encodedAs hop
    · exact decode_of_op_three hop ▸ decodeMem_encodedAs hop
  exact (hw i h).symm

/-- Settles O2: a word is its fields put together, and each reader of a field is undone by the bits of
what it answers. -/
theorem encodeUndoesDecode : Obligations.EncodeUndoesDecode :=
  fun _ _ h => ⟨decode_wf h, encode_of_decode h⟩

end Sys2Proof
end

section
/-! SUPPORT. The family 30_encoding: the illegal encodings (R136, D28). -/

namespace Sys2Proof

/-- 000 and 100 are the reserved rcond values (R134). -/
theorem RCond.ofBits_eq_none_iff : ∀ {b : BitVec 3}, RCond.ofBits b = none ↔ b = 0 ∨ b = 4 := by
  decide

namespace Machine

/-! ### A step as what the decoded word does -/

/-- What a step does with what the fetched word decodes to. -/
def runDecoded (d : Decoded) (s : State) : Res :=
  match d with
  | .instr i => exec i s
  | .stop d => execStop d s

section
variable {s : State}

theorem step_eq_runDecoded (hfetch : fetchFault s = none) :
    step s = runDecoded (decode (s.wordAt s.pc)) s := by
  cases h : decode (s.wordAt s.pc) <;> simp only [step, runDecoded, hfetch, h]

theorem step_format2 (hfetch : fetchFault s = none) (hop : (fOp (s.wordAt s.pc)).toNat = 0) :
    step s = runDecoded (decodeFormat2 (s.wordAt s.pc)) s := by
  rw [step_eq_runDecoded hfetch, decode_of_op_zero (eq_ofNat_of_toNat_eq hop)]

theorem step_arith (hfetch : fetchFault s = none) (hop : (fOp (s.wordAt s.pc)).toNat = 2) :
    step s = runDecoded (decodeArith (s.wordAt s.pc)) s := by
  rw [step_eq_runDecoded hfetch, decode_of_op_two (eq_ofNat_of_toNat_eq hop)]

theorem step_mem (hfetch : fetchFault s = none) (hop : (fOp (s.wordAt s.pc)).toNat = 3) :
    step s = runDecoded (decodeMem (s.wordAt s.pc)) s := by
  rw [step_eq_runDecoded hfetch, decode_of_op_three (eq_ofNat_of_toNat_eq hop)]

theorem runDecoded_withOperand {α : Type} {o : Option α} {stop : DecodeStop} {k : α → Instr} {r : Res}
    (hstop : execStop stop s = r) (hinstr : ∀ v, exec (k v) s = r) :
    runDecoded (withOperand o stop k) s = r := by
  cases o with
  | none => exact hstop
  | some v => exact hinstr v

end

section
variable {s : State} {w : IWord}

/-! ### Branches and MOVr (R123, R136) -/

theorem runDecoded_bpcc_illegal (hop2 : (fOp2 w).toNat = 1) (hcc0 : w.getLsbD 20 = true) :
    runDecoded (decodeFormat2 w) s = raise .illegalInstruction s := by
  have hlow : (fLow22 w).getLsbD 20 = true := (BitVec.getLsbD_extractLsb' ..).trans hcc0
  simp only [decodeFormat2, hop2, hlow, if_true]
  rfl

theorem runDecoded_bpr_illegal (hop2 : (fOp2 w).toNat = 3)
    (h : w.getLsbD 28 = true ∨ w.extractLsb' 25 3 = 0 ∨ w.extractLsb' 25 3 = 4) :
    runDecoded (decodeFormat2 w) s = raise .illegalInstruction s := by
  have hbit : (fCond w).getLsbD 3 = w.getLsbD 28 := BitVec.getLsbD_extractLsb' ..
  have hrcond : (fCond w).extractLsb' 0 3 = w.extractLsb' 25 3 := extractLsb'_extractLsb' w (by omega)
  simp only [decodeFormat2, hop2, hbit, hrcond]
  rcases h with hbit | hreserved
  · rw [if_pos hbit]
    rfl
  · rw [RCond.ofBits_eq_none_iff.2 hreserved, ite_self]
    rfl

theorem runDecoded_movr_illegal (hop3 : (fOp3 w).toNat = 0x2F)
    (h : w.extractLsb' 10 3 = 0 ∨ w.extractLsb' 10 3 = 4) :
    runDecoded (decodeArith w) s = raise .illegalInstruction s := by
  have hrcond : (fLow14 w).extractLsb' 10 3 = w.extractLsb' 10 3 := extractLsb'_extractLsb' w (by omega)
  simp only [decodeArith, hop3, decodeMovr, hrcond, RCond.ofBits_eq_none_iff.2 h]
  rfl

/-! ### Register pairs with an odd rd, and LDFSR's opcode (R136) -/

theorem raiseFirst_oddRdCheck_odd {rd : Reg} (cs : List (Bool × Exc)) {k : Res}
    (h : rd.getLsbD 0 = true) :
    raiseFirst s (oddRdCheck rd ++ cs) k = raise .illegalInstruction s := if_pos h

theorem runDecoded_pair_illegal
    (hop3 : (fOp3 w).toNat = 0x03 ∨ (fOp3 w).toNat = 0x13 ∨ (fOp3 w).toNat = 0x07 ∨
      (fOp3 w).toNat = 0x17) (hrd : (fRd w).toNat % 2 = 1) :
    runDecoded (decodeMem w) s = raise .illegalInstruction s := by
  have hodd : (fRd w).getLsbD 0 = true := by
    rw [BitVec.getLsbD, Nat.testBit_zero, hrd]
    rfl
  have hstop : execStop (pairStop (fRd w)) s = raise .illegalInstruction s := by
    rw [pairStop, if_pos hodd]
    rfl
  rcases hop3 with hop3 | hop3 | hop3 | hop3 <;> simp only [decodeMem, hop3]
  case inl | inr.inr.inl =>
    exact runDecoded_withOperand hstop fun _ => raiseFirst_oddRdCheck_odd _ hodd
  case inr.inl | inr.inr.inr => exact raiseFirst_oddRdCheck_odd _ hodd

theorem runDecoded_ldfsr_illegal (hop3 : (fOp3 w).toNat = 0x21) (h : 2 ≤ (fRd w).toNat) :
    runDecoded (decodeMem w) s = raise .illegalInstruction s := by
  simp only [decodeMem, hop3, decodeLdfsr]
  split
  case h_3 => rfl
  all_goals omega

/-! ### State registers that do not exist (R280, R289) -/

theorem runDecoded_rdasr_illegal (hop3 : (fOp3 w).toNat = 0x28)
    (h : (fRs1 w).toNat = 1 ∨ (7 ≤ (fRs1 w).toNat ∧ (fRs1 w).toNat ≠ 15)) :
    runDecoded (decodeArith w) s = raise .illegalInstruction s := by
  simp only [decodeArith, hop3, decodeRdasr_nonexistent _ _ h]
  split <;> rfl

theorem runDecoded_wrasr_illegal (hop3 : (fOp3 w).toNat = 0x30)
    (h : (fRd w).toNat = 1 ∨ (fRd w).toNat = 4 ∨ (fRd w).toNat = 5 ∨
      (7 ≤ (fRd w).toNat ∧ (fRd w).toNat ≠ 15) ∨
      ((fRd w).toNat = 15 ∧ ((fRs1 w).toNat ≠ 0 ∨ w.getLsbD 13 = false))) :
    runDecoded (decodeArith w) s = raise .illegalInstruction s := by
  simp only [decodeArith, hop3]
  by_cases hrd : (fRd w).toNat = 15
  · have hi : (fLow14 w).getLsbD 13 = w.getLsbD 13 := BitVec.getLsbD_extractLsb' ..
    have hnot : ¬ (fRs1 w = 0 ∧ w.getLsbD 13 = true) := by
      rintro ⟨hrs1, hbit⟩
      rcases h with h | h | h | h | ⟨-, h | h⟩
      case inr.inr.inr.inr.inl => exact h (congrArg BitVec.toNat hrs1)
      case inr.inr.inr.inr.inr => exact Bool.false_ne_true (h.symm.trans hbit)
      all_goals omega
    simp only [decodeWrasr, hrd, hi, if_neg hnot]
    rfl
  · rw [decodeWrasr_nonexistent _ _ (by omega)]
    split
    · exact runDecoded_withOperand rfl fun _ => rfl
    · rfl

/-! ### Illegal encodings of privileged opcodes (R296, R297, R310) -/

/-- The exception of an illegal encoding of a privileged opcode. -/
def privilegedIllegal (s : State) : Exc := if s.priv then .illegalInstruction else .privilegedOpcode

theorem raiseFirst_privileged {cs : List (Bool × Exc)} {k : Res}
    (h : raiseFirst s cs k = raise .illegalInstruction s) :
    raiseFirst s ((!s.priv, .privilegedOpcode) :: cs) k = raise (privilegedIllegal s) s := by
  rw [raiseFirst_cons, h, privilegedIllegal]
  cases s.priv <;> rfl

theorem execStop_illegalPrivileged :
    execStop .illegalPrivileged s = raise (privilegedIllegal s) s := raiseFirst_privileged rfl

/-- The checks of RDPR and WRPR on their register. -/
theorem raiseFirst_privRegister {unlisted : Bool} {n : Reg} {k : Res}
    (h : unlisted = true ∨ (n.toNat ≤ 3 ∧ s.tl = 0)) :
    raiseFirst s [(unlisted, .illegalInstruction),
      (decide (n.toNat ≤ 3) && decide (s.tl = 0), .illegalInstruction)] k =
        raise .illegalInstruction s := by
  rw [raiseFirst_cons, raiseFirst_cons]
  rcases h with h | ⟨hn, htl⟩
  · rw [if_pos h]
  · simp only [hn, htl, decide_true, Bool.and_self, if_true, ite_self]

theorem execStop_privStop {unlisted : Bool} {n : Reg}
    (h : unlisted = true ∨ (n.toNat ≤ 3 ∧ s.tl = 0)) :
    execStop (privStop unlisted n) s = raise (privilegedIllegal s) s := by
  unfold privStop
  rcases h with h | ⟨hn, htl⟩
  · rw [if_pos h, execStop_illegalPrivileged]
  · rw [if_pos hn]
    split
    · exact execStop_illegalPrivileged
    · rw [execStop, if_pos htl]
      exact raiseFirst_privileged rfl

theorem runDecoded_saved_illegal (hop3 : (fOp3 w).toNat = 0x31) (h : 2 ≤ (fRd w).toNat) :
    runDecoded (decodeArith w) s = raise (privilegedIllegal s) s := by
  simp only [decodeArith, hop3, decodeSaved]
  split
  case h_3 => exact execStop_illegalPrivileged
  all_goals omega

theorem runDecoded_rdpr_illegal (hop3 : (fOp3 w).toNat = 0x2A)
    (h : (15 ≤ (fRs1 w).toNat ∧ (fRs1 w).toNat ≤ 30) ∨ ((fRs1 w).toNat ≤ 3 ∧ s.tl = 0)) :
    runDecoded (decodeArith w) s = raise (privilegedIllegal s) s := by
  simp only [decodeArith, hop3, decodeRdpr]
  split
  · exact raiseFirst_privileged (raiseFirst_privRegister (by simpa using h))
  · exact execStop_privStop (by simpa using h)

theorem runDecoded_wrpr_illegal (hop3 : (fOp3 w).toNat = 0x32)
    (h : 15 ≤ (fRd w).toNat ∨ ((fRd w).toNat ≤ 3 ∧ s.tl = 0)) :
    runDecoded (decodeArith w) s = raise (privilegedIllegal s) s := by
  simp only [decodeArith, hop3]
  exact runDecoded_withOperand (execStop_privStop (by simpa using h)) fun _ =>
    raiseFirst_privileged (raiseFirst_privRegister (by simpa using h))

end

/-- Settles O4: each clause names one row of the decoder, which stops there or answers an instruction
whose first check that holds raises the same exception. -/
theorem illegalEncodingsTrap : Obligations.IllegalEncodingsTrap := by
  unfold Obligations.IllegalEncodingsTrap
  intro s hfetch
  refine ⟨?illegal, ?privileged⟩
  case illegal =>
    rintro (⟨hop, hop2, h⟩ | ⟨hop, hop2, h⟩ | ⟨hop, hop3, h⟩ | ⟨hop, hop3, h⟩ | ⟨hop, hop3, h⟩ |
      ⟨hop, hop3, h⟩ | ⟨hop, hop3, h⟩)
    · exact (step_format2 hfetch hop).trans (runDecoded_bpcc_illegal hop2 h)
    · exact (step_format2 hfetch hop).trans (runDecoded_bpr_illegal hop2 h)
    · exact (step_arith hfetch hop).trans (runDecoded_movr_illegal hop3 h)
    · exact (step_mem hfetch hop).trans (runDecoded_pair_illegal hop3 h)
    · exact (step_mem hfetch hop).trans (runDecoded_ldfsr_illegal hop3 h)
    · exact (step_arith hfetch hop).trans (runDecoded_rdasr_illegal hop3 h)
    · exact (step_arith hfetch hop).trans (runDecoded_wrasr_illegal hop3 h)
  case privileged =>
    rintro (⟨hop, hop3, h⟩ | ⟨hop, hop3, h⟩ | ⟨hop, hop3, h⟩ | ⟨hop, hop3, h⟩ | ⟨hop, hop3, h⟩)
    · exact (step_arith hfetch hop).trans (runDecoded_saved_illegal hop3 h)
    · exact (step_arith hfetch hop).trans (runDecoded_rdpr_illegal hop3 (.inl h))
    · exact (step_arith hfetch hop).trans (runDecoded_wrpr_illegal hop3 (.inl h))
    · exact (step_arith hfetch hop).trans (runDecoded_rdpr_illegal hop3 (.inr h))
    · exact (step_arith hfetch hop).trans (runDecoded_wrpr_illegal hop3 (.inr h))

end Machine

end Sys2Proof
end

section
/-! SUPPORT. The family 30_encoding: words the spec prints, and the condition tables (R134). -/

namespace Sys2Proof

/-- Settles O3: the decoder evaluates on each word to the instruction printed beside it. -/
theorem decodeReadsTheSpecsWords : Obligations.DecodeReadsTheSpecsWords :=
  ⟨rfl, rfl, rfl, rfl, rfl, rfl, rfl, rfl, rfl, rfl, rfl, rfl, rfl, rfl, rfl⟩

namespace Machine

/-- The register conditions are tests of the value for zero and of its sign bit. -/
theorem rcondTest_eq (v : Word) :
    rcondTest .z v = decide (v = 0) ∧ rcondTest .lez v = decide (v = 0 ∨ v.msb = true) ∧
      rcondTest .lz v = v.msb ∧ rcondTest .nz v = decide (v ≠ 0) ∧
      rcondTest .gz v = decide (v ≠ 0 ∧ v.msb = false) ∧ rcondTest .gez v = !v.msb := by
  have hzero : v = 0 ↔ v.toInt = 0 := BitVec.toInt_inj (y := 0#64).symm
  simp only [rcondTest, hzero, BitVec.msb_eq_toInt, ← decide_not, decide_eq_decide,
    decide_eq_true_eq, decide_eq_false_iff_not, ne_eq, true_and]
  omega

/-- Settles O17: the tables by evaluation, the register conditions by the sign of the value. -/
theorem conditionTables : Obligations.ConditionTables := by
  unfold Obligations.ConditionTables
  refine ⟨?icond, ?fcond, ?rcond⟩
  case icond =>
    exact fun _ _ _ _ =>
      ⟨rfl, rfl, rfl, rfl, rfl, rfl, rfl, rfl, rfl, rfl, rfl, rfl, rfl, rfl, rfl, rfl⟩
  case fcond => decide
  case rcond =>
    intro v
    obtain ⟨hz, hlez, hlz, hnz, hgz, hgez⟩ := rcondTest_eq v
    exact ⟨⟨rfl, rfl⟩, congrArg some hz, congrArg some hlez, congrArg some hlz, congrArg some hnz,
      congrArg some hgz, congrArg some hgez⟩

end Machine

end Sys2Proof
end

section
/-! SUPPORT. The family 40_branches: what each branch computes, and the table of R161. -/

namespace Sys2Proof.Machine

/-! ### The row of a condition, executed (R163 to R167) -/

section
variable (s : State)

theorem exec_mkBicc (c : ICond) (a : Bool) (d : BitVec 22) :
    exec (mkBicc c a d) s = bicc c a d s := by cases c <;> rfl

theorem exec_mkBpcc (c : ICond) (a : Bool) (cc : CcSel) (p : Bool) (d : BitVec 19) :
    exec (mkBpcc c a cc p d) s = bpcc c a cc d s := by cases c <;> rfl

theorem exec_mkBpr (c : RCond) (a p : Bool) (rs1 : Reg) (d : BitVec 16) :
    exec (mkBpr c a p rs1 d) s = bpr c a rs1 d s := by cases c <;> rfl

theorem exec_mkFbfcc (c : FCond) (a : Bool) (d : BitVec 22) :
    exec (mkFbfcc c a d) s = fbfcc c a d s := by cases c <;> rfl

theorem exec_mkFbpfcc (c : FCond) (a : Bool) (cc : FccSel) (p : Bool) (d : BitVec 19) :
    exec (mkFbpfcc c a cc p d) s = fbpfcc c a cc d s := by cases c <;> rfl

theorem State.ccSel_eq (cc : CcSel) :
    s.ccSel cc = if cc = .xcc then ccrXcc s.ccr else ccrIcc s.ccr := by cases cc <;> rfl

end

theorem icondKind_always (c : ICond) : decide (icondKind c = .always) = decide (c = .a) := by
  cases c <;> rfl

theorem icondKind_never (c : ICond) : decide (icondKind c = .never) = decide (c = .n) := by
  cases c <;> rfl

theorem fcondKind_always (c : FCond) : decide (fcondKind c = .always) = decide (c = .a) := by
  cases c <;> rfl

theorem fcondKind_never (c : FCond) : decide (fcondKind c = .never) = decide (c = .n) := by
  cases c <;> rfl

/-! ### A branch by its delay slot (R161, R162) -/

section
variable {s : State}

theorem branch_refused (hd : s.branchInDelaySlot = true) (kind : BranchKind) (a taken : Bool)
    (T : Word) : branch s kind a taken T = .refused .branchInDelaySlot := if_pos hd

theorem branchRow_conditional (s : State) (a taken : Bool) (T : Word) :
    BranchRow s (s.setPcs (branchPcs .conditional a taken s.npc T).1
      (branchPcs .conditional a taken s.npc T).2) false false a taken T := by
  refine ⟨rfl, ?taken, ?untaken, ?annulTaken, ?annulUntaken, nofun, nofun, nofun, nofun⟩
  all_goals
    rintro - - rfl rfl
    exact ⟨rfl, rfl⟩

theorem branchRow_always (s : State) (a taken : Bool) (T : Word) :
    BranchRow s (s.setPcs (branchPcs .always a taken s.npc T).1
      (branchPcs .always a taken s.npc T).2) true false a taken T := by
  refine ⟨rfl, nofun, nofun, nofun, nofun, ?delay, ?annul, nofun, nofun⟩
  all_goals
    rintro - rfl
    exact ⟨rfl, rfl⟩

theorem branchRow_never (s : State) (a taken : Bool) (T : Word) :
    BranchRow s (s.setPcs (branchPcs .never a taken s.npc T).1
      (branchPcs .never a taken s.npc T).2) false true a taken T := by
  refine ⟨rfl, nofun, nofun, nofun, nofun, nofun, nofun, ?delay, ?annul⟩
  all_goals
    rintro - rfl
    exact ⟨rfl, rfl⟩

/-- Where a branch goes is the row of R161 for its kind. -/
theorem branchRow_branchPcs (s : State) (kind : BranchKind) (a taken : Bool) (T : Word) :
    BranchRow s (s.setPcs (branchPcs kind a taken s.npc T).1 (branchPcs kind a taken s.npc T).2)
      (decide (kind = .always)) (decide (kind = .never)) a taken T := by
  cases kind with
  | conditional => exact branchRow_conditional s a taken T
  | always => exact branchRow_always s a taken T
  | never => exact branchRow_never s a taken T

theorem branch_completes (hd : s.branchInDelaySlot = false) (kind : BranchKind) (a taken : Bool)
    (T : Word) :
    ∃ t, branch s kind a taken T = .next t ∧
      BranchRow s t (decide (kind = .always)) (decide (kind = .never)) a taken T :=
  ⟨_, if_neg (Bool.eq_false_iff.1 hd), branchRow_branchPcs s kind a taken T⟩

theorem branch_icond_completes (hd : s.branchInDelaySlot = false) (c : ICond) (a taken : Bool)
    (T : Word) :
    ∃ t, branch s (icondKind c) a taken T = .next t ∧
      BranchRow s t (decide (c = .a)) (decide (c = .n)) a taken T := by
  rw [← icondKind_always, ← icondKind_never]
  exact branch_completes hd ..

theorem branch_fcond_completes (hd : s.branchInDelaySlot = false) (c : FCond) (a taken : Bool)
    (T : Word) :
    ∃ t, branch s (fcondKind c) a taken T = .next t ∧
      BranchRow s t (decide (c = .a)) (decide (c = .n)) a taken T := by
  rw [← fcondKind_always, ← fcondKind_never]
  exact branch_completes hd ..

/-! ### A floating-point branch with floating point enabled (R166, R167, R200) -/

theorem fbfcc_enabled (hfp : s.fpEnabled = true) (c : FCond) (a : Bool) (d : BitVec 22) :
    fbfcc c a d s =
      branch s (fcondKind c) a (fcondTest c (fsrFcc s.fsr .fcc0)) (s.branchTarget d) :=
  raiseFirst_fpCheck hfp

theorem fbpfcc_enabled (hfp : s.fpEnabled = true) (c : FCond) (a : Bool) (cc : FccSel)
    (d : BitVec 19) :
    fbpfcc c a cc d s =
      branch s (fcondKind c) a (fcondTest c (fsrFcc s.fsr cc)) (s.branchTarget d) :=
  raiseFirst_fpCheck hfp

end

/-! ### The statements -/

/-- Settles O18: each row is a branch on its condition, and a branch follows the table. -/
theorem integerBranches : Obligations.IntegerBranches := by
  unfold Obligations.IntegerBranches
  intro s hd
  refine ⟨fun c a d => ?bicc, fun c a cc p d => ?bpcc, fun c a p rs1 d => ?bpr⟩
  case bicc =>
    rw [exec_mkBicc]
    exact branch_icond_completes hd ..
  case bpcc =>
    rw [exec_mkBpcc, ← s.ccSel_eq cc]
    exact branch_icond_completes hd ..
  case bpr =>
    rw [exec_mkBpr]
    exact branch_completes hd .conditional ..

/-- Settles O19: once floating point is enabled each row is a branch on its condition, and a branch
follows the table. -/
theorem floatingBranches : Obligations.FloatingBranches := by
  unfold Obligations.FloatingBranches
  intro s hd hfp
  refine ⟨fun c a d => ?fbfcc, fun c a cc p d => ?fbpfcc⟩
  case fbfcc =>
    rw [exec_mkFbfcc, fbfcc_enabled hfp]
    exact branch_fcond_completes hd ..
  case fbpfcc =>
    rw [exec_mkFbpfcc, fbpfcc_enabled hfp]
    exact branch_fcond_completes hd ..

/-- Settles O20: the test of the delay slot comes before the condition and the annul bit, and only the
check that floating point is enabled comes before it. -/
theorem branchInADelaySlotIsRefused : Obligations.BranchInADelaySlotIsRefused := by
  unfold Obligations.BranchInADelaySlotIsRefused
  intro s hd
  refine ⟨fun c a d => ?bicc, fun c a cc p d => ?bpcc, fun c a p rs1 d => ?bpr,
    fun hfp c a d => ?fbfcc, fun hfp c a cc p d => ?fbpfcc⟩
  case bicc => exact (exec_mkBicc s c a d).trans (branch_refused hd ..)
  case bpcc => exact (exec_mkBpcc s c a cc p d).trans (branch_refused hd ..)
  case bpr => exact (exec_mkBpr s c a p rs1 d).trans (branch_refused hd ..)
  case fbfcc =>
    rw [exec_mkFbfcc, fbfcc_enabled hfp]
    exact branch_refused hd ..
  case fbpfcc =>
    rw [exec_mkFbpfcc, fbpfcc_enabled hfp]
    exact branch_refused hd ..

end Sys2Proof.Machine
end

section
/-! SUPPORT. The family 41_compare_and_swap: what CASA, CASXA and SWAP leave in memory and in rd
(R180 to R184). -/

namespace Sys2Proof.Machine

section
variable (s : State) (k : BitVec 8) (a : Word)

/-- An atomic stores the low n bytes of a register, cut off before the store. -/
theorem memWritten_storeValue_mod (n v : Nat) :
    MemWritten s.mem (s.storeValue k a n (v % 2 ^ (8 * n))).mem a.toNat
      (valueBytes (littleAsi k) n v) := by
  have hpow : 2 ^ (8 * n) = 256 ^ n := pow_mul 2 8 n
  rw [hpow, ← valueBytes_mod]
  exact memWritten_writeBytes ..

/-- What a compare-and-swap of n bytes does, by the outcome of the comparison (R181, R182). -/
theorem compareAndSwap_wrote (n : Nat) (rs2 rd : Reg) :
    ∃ m,
      (s.valueAt k a n = (s.readReg rs2).toNat % 2 ^ (8 * n) →
        MemWritten s.mem m a.toNat (valueBytes (littleAsi k) n (s.readReg rd).toNat)) ∧
      (s.valueAt k a n ≠ (s.readReg rs2).toNat % 2 ^ (8 * n) → m = s.mem) ∧
      WroteInts { s with mem := m } (compareAndSwap s k a n rs2 rd).advance
        [(s.cellOf rd, BitVec.ofNat 64 (s.valueAt k a n))] := by
  by_cases heq : s.valueAt k a n = (s.readReg rs2).toNat % 2 ^ (8 * n)
  case pos =>
    have hcas : compareAndSwap s k a n rs2 rd =
        (s.storeValue k a n ((s.readReg rd).toNat % 2 ^ (8 * n))).writeReg rd
          (BitVec.ofNat 64 (s.valueAt k a n)) :=
      congrArg (State.writeReg · rd _) (if_pos heq)
    rw [hcas]
    exact ⟨_, fun _ => memWritten_storeValue_mod s k a n _, (absurd heq ·),
      wroteInts_writeReg ..⟩
  case neg =>
    have hcas : compareAndSwap s k a n rs2 rd =
        s.writeReg rd (BitVec.ofNat 64 (s.valueAt k a n)) :=
      congrArg (State.writeReg · rd _) (if_neg heq)
    rw [hcas]
    exact ⟨s.mem, (absurd · heq), fun _ => rfl, wroteInts_writeReg ..⟩

end

/-- CASA and CASXA, for either width, once their checks pass (R180 to R182). -/
theorem casN_completes {s : State} {n : Nat} {rd rs1 rs2 : Reg} {asi : CasAsi}
    (husable : s.asiUsable (s.casAsi asi)) (hasi : nofaultAsi (s.casAsi asi) = false)
    (hstorable : s.storable (s.casAddr rs1) n) :
    casN n rd rs1 asi rs2 s =
      .next (compareAndSwap s (s.casAsi asi) (s.casAddr rs1) n rs2 rd).advance := by
  obtain ⟨ha, hmem, htext⟩ := hstorable
  exact (casN_checked ha husable hasi).trans (withStore_pass hmem htext)

/-- Settles O23: SWAP stores the low word of rd and then writes rd. -/
theorem swapExchanges : Obligations.SwapExchanges := by
  unfold Obligations.SwapExchanges
  rintro s rd rs1 op2 a k ⟨ha, hmem, htext⟩
  exact ⟨_, _, (execSwap_checked ha).trans (withStore_pass hmem htext),
    memWritten_storeValue_mod s k a 4 _, wroteInts_writeReg ..⟩

end Sys2Proof.Machine

namespace Sys2Proof

open Machine

/-- Settles O22: both instructions are the compare-and-swap of their width; for CASXA the low bytes
of a register are all of it. -/
theorem compareAndSwap : Obligations.CompareAndSwap := by
  unfold Obligations.CompareAndSwap
  intro s rd rs1 rs2 asi a k husable hasi
  refine ⟨fun hstorable => ?casa, fun hstorable => ?casxa⟩
  case casa =>
    obtain ⟨m, heq, hne, hwrote⟩ := compareAndSwap_wrote s k a 4 rs2 rd
    exact ⟨m, _, casN_completes husable hasi hstorable, heq, hne, hwrote⟩
  case casxa =>
    obtain ⟨m, heq, hne, hwrote⟩ := compareAndSwap_wrote s k a 8 rs2 rd
    have hall : (s.readReg rs2).toNat % 2 ^ (8 * 8) = (s.readReg rs2).toNat :=
      Nat.mod_eq_of_lt (s.readReg rs2).isLt
    rw [hall] at heq hne
    exact ⟨m, _, casN_completes husable hasi hstorable, heq, hne, hwrote⟩

end Sys2Proof
end

section
/-! SUPPORT. The family 42_fp_move_and_fsr: the fields of FSR after one of them is replaced (R204,
R205; 10_state.md R35). -/

namespace Sys2Proof.Machine

/-! ### A field replaced -/

section
variable {n w : Nat} (v : BitVec n) (lo : Nat) (x : BitVec w)

theorem getLsbD_putField {i : Nat} (hi : i < n) :
    (putField v lo x).getLsbD i =
      if lo ≤ i ∧ i < lo + w then x.getLsbD (i - lo) else v.getLsbD i := by
  have hin : i - lo < n := by omega
  simp only [putField, BitVec.getLsbD_or, BitVec.getLsbD_and, BitVec.getLsbD_not,
    BitVec.getLsbD_shiftLeft, BitVec.getLsbD_setWidth, BitVec.getLsbD_allOnes, hi, hin, decide_true,
    Bool.true_and]
  split
  case isTrue hfield =>
    have hlo : ¬ i < lo := by omega
    have hoff : i - lo < w := by omega
    simp [hlo, hoff]
  case isFalse hfield =>
    by_cases hlo : i < lo
    · simp [hlo]
    · have hoff : w ≤ i - lo := by omega
      simp [hlo, hoff]

theorem extractLsb'_putField_same (hfits : lo + w ≤ n) : (putField v lo x).extractLsb' lo w = x := by
  ext i hi
  rw [BitVec.getElem_extractLsb', getLsbD_putField v lo x (by omega), if_pos (by omega),
    Nat.add_sub_cancel_left, BitVec.getLsbD_eq_getElem hi]

theorem extractLsb'_putField_apart {start len : Nat} (hfits : start + len ≤ n)
    (hapart : start + len ≤ lo ∨ lo + w ≤ start) :
    (putField v lo x).extractLsb' start len = v.extractLsb' start len := by
  ext i hi
  rw [BitVec.getElem_extractLsb', BitVec.getElem_extractLsb', getLsbD_putField v lo x (by omega),
    if_neg (by omega)]

/-- What a mask that is zero in the field selects does not change. -/
theorem putField_and {m : BitVec n} (hm : m.extractLsb' lo w = 0#w) :
    putField v lo x &&& m = v &&& m := by
  ext i hi
  rw [← BitVec.getLsbD_eq_getElem hi, ← BitVec.getLsbD_eq_getElem hi, BitVec.getLsbD_and,
    BitVec.getLsbD_and, getLsbD_putField v lo x hi]
  split
  case isTrue hfield =>
    have hbit := congrArg (BitVec.getLsbD · (i - lo)) hm
    simp only [BitVec.getLsbD_extractLsb', BitVec.getLsbD_zero, Nat.add_sub_cancel' hfield.1] at hbit
    have hoff : i - lo < w := by omega
    simp only [hoff, decide_true, Bool.true_and] at hbit
    rw [hbit, Bool.and_false, Bool.and_false]
  case isFalse => rfl

theorem putField_zero :
    putField v lo (0 : BitVec w) = v &&& ~~~((BitVec.allOnes w).setWidth n <<< lo) := by
  simp [putField]

end

/-! ### cexc, aexc and ftt, each after a write of each -/

section
variable (v : Word) (x : BitVec 5) (y : BitVec 3)

@[simp] theorem fsrCexc_fsrPutCexc : fsrCexc (fsrPutCexc v x) = x :=
  extractLsb'_putField_same v 0 x (by decide)

@[simp] theorem fsrCexc_fsrPutAexc : fsrCexc (fsrPutAexc v x) = fsrCexc v :=
  extractLsb'_putField_apart v 5 x (by decide) (by decide)

@[simp] theorem fsrCexc_fsrPutFtt : fsrCexc (fsrPutFtt v y) = fsrCexc v :=
  extractLsb'_putField_apart v 14 y (by decide) (by decide)

@[simp] theorem fsrAexc_fsrPutCexc : fsrAexc (fsrPutCexc v x) = fsrAexc v :=
  extractLsb'_putField_apart v 0 x (by decide) (by decide)

@[simp] theorem fsrAexc_fsrPutAexc : fsrAexc (fsrPutAexc v x) = x :=
  extractLsb'_putField_same v 5 x (by decide)

@[simp] theorem fsrAexc_fsrPutFtt : fsrAexc (fsrPutFtt v y) = fsrAexc v :=
  extractLsb'_putField_apart v 14 y (by decide) (by decide)

@[simp] theorem fsrFtt_fsrPutCexc : fsrFtt (fsrPutCexc v x) = fsrFtt v :=
  extractLsb'_putField_apart v 0 x (by decide) (by decide)

@[simp] theorem fsrFtt_fsrPutAexc : fsrFtt (fsrPutAexc v x) = fsrFtt v :=
  extractLsb'_putField_apart v 5 x (by decide) (by decide)

@[simp] theorem fsrFtt_fsrPutFtt : fsrFtt (fsrPutFtt v y) = y :=
  extractLsb'_putField_same v 14 y (by decide)

/-! ### Everything else in FSR -/

theorem fsrPutCexc_and {m : Word} (hm : m.extractLsb' 0 5 = 0) : fsrPutCexc v x &&& m = v &&& m :=
  putField_and v 0 x hm

theorem fsrPutAexc_and {m : Word} (hm : m.extractLsb' 5 5 = 0) : fsrPutAexc v x &&& m = v &&& m :=
  putField_and v 5 x hm

theorem fsrPutFtt_and {m : Word} (hm : m.extractLsb' 14 3 = 0) : fsrPutFtt v y &&& m = v &&& m :=
  putField_and v 14 y hm

end

/-- Clearing cexc and ftt is a mask. -/
theorem State.clearCexcFtt_eq (s : State) :
    s.clearCexcFtt = { s with fsr := s.fsr &&& 0xFFFFFFFFFFFE3FE0 } := by
  unfold State.clearCexcFtt fsrPutFtt fsrPutCexc
  rw [putField_zero, putField_zero, BitVec.and_assoc]
  rfl

/-! ### FSR and F after a trap (R364, R382) -/

@[simp] theorem takeTrap_f (e : Exc) (s : State) : (takeTrap e s).f = s.f := by
  unfold takeTrap
  split
  · rfl
  · split <;> simp

@[simp] theorem takeTrap_fprs (e : Exc) (s : State) : (takeTrap e s).fprs = s.fprs := by
  unfold takeTrap
  split
  · rfl
  · split <;> simp

/-- Below MAXTL a trap changes of FSR what the exception records there. -/
theorem takeTrap_fsr_below (e : Exc) {s : State} (h : s.tl.toNat < s.params.maxtl) :
    (takeTrap e s).fsr = (recordFp e s).fsr := by
  unfold takeTrap
  rw [if_neg (Nat.not_le.2 h)]
  split <;> simp

end Sys2Proof.Machine
end

section
/-! SUPPORT. The family 42_fp_move_and_fsr: the enabling check, and what the 36 conditional moves
compute (R200 to R204, R217 to R222). -/

namespace Sys2Proof.Machine

/-! ### Writes of F and the dirty bit (10_state.md R30, R33) -/

section
variable (s : State) (n : BitVec 6)

/-- The dirty bit alone, before any word of F is written. -/
theorem wroteFloats_markDirty :
    WroteFloats { s with fprs := s.fprs ||| (if n.toNat < 32 then 1 else 2) }
      (s.markDirty n).advance [] := ⟨rfl, nofun, fun _ _ => rfl⟩

/-- One more word of F written. -/
theorem WroteFloats.setFWord {s t : State} {dests : List (BitVec 6 × BitVec 32)}
    (h : WroteFloats s t dests) (n : BitVec 6) (v : BitVec 32) (hnew : ∀ w, (n, w) ∉ dests) :
    WroteFloats s (t.setFWord n v) (dests ++ [(n, v)]) := by
  obtain ⟨hframe, hwritten, hother⟩ := h
  refine ⟨congrArg (fun x : State => { x with f := t.f.set (fIndex n) v }) hframe,
    fun m w hmem => ?written, fun m hm => ?other⟩
  case written =>
    rw [State.fWord_setFWord]
    obtain hold | hlast := List.mem_append.1 hmem
    · rw [if_neg fun h : n = m => hnew w (h ▸ hold)]
      exact hwritten m w hold
    · obtain ⟨rfl, rfl⟩ := Prod.mk.inj (List.mem_singleton.1 hlast)
      exact if_pos rfl
  case other =>
    have hne : n ≠ m := fun h => hm v (by simp [h])
    rw [State.fWord_setFWord, if_neg hne]
    exact hother m fun w hw => hm w (List.mem_append_left _ hw)

/-- A single written, its half marked dirty. -/
theorem wroteFloats_setFWord (v : BitVec 32) :
    WroteFloats { s with fprs := s.fprs ||| (if n.toNat < 32 then 1 else 2) }
      ((s.setFWord n v).markDirty n).advance [(n, v)] :=
  (wroteFloats_markDirty s n).setFWord n v (by simp)

/-- A double written, the half of its first word marked dirty. -/
theorem wroteFloats_setF64 (v : BitVec 64) :
    WroteFloats { s with fprs := s.fprs ||| (if n.toNat < 32 then 1 else 2) }
      ((s.setF64 n v).markDirty n).advance
      [(n, v.extractLsb' 32 32), (n + 1, v.extractLsb' 0 32)] :=
  (wroteFloats_setFWord s n _).setFWord (n + 1) _ (by simp)

/-- A quad written, the half of its first word marked dirty. -/
theorem wroteFloats_setF128 (v : BitVec 128) :
    WroteFloats { s with fprs := s.fprs ||| (if n.toNat < 32 then 1 else 2) }
      ((s.setF128 n v).markDirty n).advance
      [(n, v.extractLsb' 96 32), (n + 1, v.extractLsb' 64 32), (n + 2, v.extractLsb' 32 32),
        (n + 3, v.extractLsb' 0 32)] :=
  (((wroteFloats_setFWord s n _).setFWord (n + 1) _ (by simp)).setFWord (n + 2) _
    (by simp)).setFWord (n + 3) _ (by simp)

end

/-- A single register is one of f0 to f31. -/
theorem singleReg_toNat_lt (field : Reg) : (singleReg field).toNat < 32 :=
  (singleReg_toNat field).trans_lt field.isLt

theorem State.f64_words (s : State) (k : BitVec 6) :
    (s.f64 k).extractLsb' 32 32 = s.fWord k ∧ (s.f64 k).extractLsb' 0 32 = s.fWord (k + 1) :=
  ⟨BitVec.extractLsb'_append_eq_left, BitVec.extractLsb'_append_eq_right⟩

theorem State.f128_words (s : State) (k : BitVec 6) :
    (s.f128 k).extractLsb' 96 32 = s.fWord k ∧ (s.f128 k).extractLsb' 64 32 = s.fWord (k + 1) ∧
      (s.f128 k).extractLsb' 32 32 = s.fWord (k + 2) ∧
      (s.f128 k).extractLsb' 0 32 = s.fWord (k + 3) :=
  have above {start v : Nat} {hi : BitVec v} {lo x : BitVec 32} (h : 32 ≤ start)
      (hx : hi.extractLsb' (start - 32) 32 = x) : (hi ++ lo).extractLsb' start 32 = x :=
    (BitVec.extractLsb'_append_eq_of_le h).trans hx
  ⟨above (by decide) (above (by decide) BitVec.extractLsb'_append_eq_left),
    above (by decide) (above (by decide) BitVec.extractLsb'_append_eq_right),
    above (by decide) BitVec.extractLsb'_append_eq_right, BitVec.extractLsb'_append_eq_right⟩

/-- The copy of a move is the words of the source written at the destination (R201). -/
theorem movedFloat_copyF (s : State) (size : FpSize) (rd rs2 : Reg) :
    MovedFloat size s (s.copyF size rd rs2).advance rd rs2 := by
  cases size with
  | single =>
    have h := wroteFloats_setFWord s (singleReg rd) (s.fWord (singleReg rs2))
    rwa [if_pos (singleReg_toNat_lt rd)] at h
  | double =>
    obtain ⟨h0, h1⟩ := s.f64_words (doubleReg rs2)
    have h := wroteFloats_setF64 s (doubleReg rd) (s.f64 (doubleReg rs2))
    rwa [h0, h1] at h
  | quad =>
    obtain ⟨h0, h1, h2, h3⟩ := s.f128_words (doubleReg rs2)
    have h := wroteFloats_setF128 s (doubleReg rd) (s.f128 (doubleReg rs2))
    rwa [h0, h1, h2, h3] at h

/-! ### The row of a size and a condition, executed (R217 to R222) -/

section
variable (s : State)

theorem exec_mkFmovFcc (size : FpSize) (cc : FccSel) (c : FCond) (rd rs2 : Reg) :
    exec (mkFmovFcc size cc c rd rs2) s = fmov size (fcondTest c (fsrFcc s.fsr cc)) rd rs2 s := by
  cases size <;> cases cc <;> rfl

theorem exec_mkFmovIcc (size : FpSize) (cc : CcSel) (c : ICond) (rd rs2 : Reg) :
    exec (mkFmovIcc size cc c rd rs2) s = fmov size (icondTest c (s.ccSel cc)) rd rs2 s := by
  cases size <;> cases cc <;> rfl

theorem exec_mkFmovr (size : FpSize) (c : RCond) (rd rs1 rs2 : Reg) :
    exec (mkFmovr size c rd rs1 rs2) s = fmov size (rcondTest c (s.readReg rs1)) rd rs2 s := by
  cases size <;> cases c <;> rfl

end

/-! ### A move by its checks (R200, R201, R202) -/

section
variable {s : State} {size : FpSize} {rd rs2 : Reg}

theorem State.fpEnabled_eq_false
    (h : s.pstate.getLsbD 4 = false ∨ s.fprs.getLsbD 2 = false) : s.fpEnabled = false :=
  Bool.and_eq_false_iff.2 h

/-- Whatever checks follow, a disabled floating-point unit traps first (R200). -/
theorem raiseFirst_fpDisabled (h : s.fpEnabled = false) (cs : List (Bool × Exc)) (k : Res) :
    raiseFirst s ((!s.fpEnabled, .fpDisabled) :: cs) k = raise .fpDisabled s := by
  rw [raiseFirst_cons, h]
  rfl

theorem fmov_disabled (h : s.fpEnabled = false) (moves : Bool) :
    fmov size moves rd rs2 s = raise .fpDisabled s := raiseFirst_fpDisabled h _ _

/-- An enabled move whose quad fields, if it is a quad move, name registers completes. -/
theorem fmov_completes (hfp : s.fpEnabled = true)
    (hquad : size = .quad → quadFieldInvalid rd = false ∧ quadFieldInvalid rs2 = false)
    (moves : Bool) :
    fmov size moves rd rs2 s =
      .next (if moves then (s.clearCexcFtt.copyF size rd rs2).advance
        else s.clearCexcFtt.advance) := by
  have hcheck : (decide (size = .quad) && (quadFieldInvalid rd || quadFieldInvalid rs2)) = false := by
    cases size
    case quad =>
      obtain ⟨hrd, hrs2⟩ := hquad rfl
      rw [hrd, hrs2]
      rfl
    all_goals rfl
  rw [fmov, raiseFirst_append, raiseFirst_fpCheck hfp, quadMoveCheck, raiseFirst_cons, hcheck,
    if_neg Bool.false_ne_true, raiseFirst_nil]

theorem fmov_quad_invalid (hfp : s.fpEnabled = true)
    (h : quadFieldInvalid rd = true ∨ quadFieldInvalid rs2 = true) (moves : Bool) :
    fmov .quad moves rd rs2 s = raise (.fpExceptionOther 6) s := by
  rw [fmov, raiseFirst_append, raiseFirst_fpCheck hfp, quadMoveCheck, raiseFirst_cons,
    if_pos (Bool.and_eq_true_iff.2 ⟨decide_eq_true rfl, Bool.or_eq_true_iff.2 h⟩)]

/-- A move that does not trap leaves in FSR the same value whether or not it moves (R204). -/
theorem fmov_next_fsr {t : State} {moves : Bool} (h : fmov size moves rd rs2 s = .next t) :
    (∃ e, t = takeTrap e s) ∨ t.fsr = fsrPutFtt (fsrPutCexc s.fsr 0) 0 := by
  obtain htrap | ⟨-, hk⟩ := raiseFirst_next _ _ _ _ h
  · exact .inl htrap
  · rw [next_inj hk]
    cases moves <;> exact .inr (by simp)

theorem fmov_clears {t : State} {moves : Bool} (h : fmov size moves rd rs2 s = .next t) :
    (∃ e, t = takeTrap e s) ∨
      (fsrCexc t.fsr = 0 ∧ fsrFtt t.fsr = 0 ∧ fsrAexc t.fsr = fsrAexc s.fsr) :=
  (fmov_next_fsr h).imp_right fun hfsr => by simp [hfsr]

/-- What a move that completes does, by its condition (R201, R204). -/
theorem fmov_moves (hfp : s.fpEnabled = true)
    (hquad : size = .quad → quadFieldInvalid rd = false ∧ quadFieldInvalid rs2 = false)
    (test : Bool) :
    ∃ t, fmov size test rd rs2 s = .next t ∧
      (test = true → MovedFloat size s.clearCexcFtt t rd rs2) ∧
      (test = false → t = s.clearCexcFtt.nextWithMem s.mem) := by
  refine ⟨_, fmov_completes hfp hquad test, ?_⟩
  cases test with
  | true => exact ⟨fun _ => movedFloat_copyF .., nofun⟩
  | false => exact ⟨nofun, fun _ => rfl⟩

/-- LDQF checks the field of rd after the alignment (43_loads.md R242). -/
theorem execLdqf_invalid {rs1 : Reg} {op2 : Operand2} (hfp : s.fpEnabled = true)
    (ha : (s.effAddr rs1 op2).toNat % 16 = 0) (h : quadFieldInvalid rd = true) :
    execLdqf rd rs1 op2 s = raise (.fpExceptionOther 6) s := by
  rw [execLdqf, raiseFirst_append, fpLoadChecks_pass hfp (by omega), raiseFirst_aligned _ _ ha,
    raiseFirst_cons, if_pos h]

end

/-! ### The statements -/

/-- Settles O24: each row is the move of its size on its condition. -/
theorem floatingMoves : Obligations.FloatingMoves := by
  unfold Obligations.FloatingMoves
  intro s size rd rs2 hfp hquad
  simp only [← State.clearCexcFtt_eq]
  refine ⟨fun cc c => ?fcc, fun cc c => ?icc, fun c rs1 => ?reg⟩
  case fcc =>
    rw [exec_mkFmovFcc]
    exact fmov_moves hfp hquad _
  case icc =>
    rw [exec_mkFmovIcc, ← s.ccSel_eq cc]
    exact fmov_moves hfp hquad _
  case reg =>
    rw [exec_mkFmovr]
    exact fmov_moves hfp hquad _

/-- Settles O25: each row is a move, and every move that does not trap clears the two fields. -/
theorem fmovClearsCexcAndFtt : Obligations.FmovClearsCexcAndFtt := by
  unfold Obligations.FmovClearsCexcAndFtt
  intro s t size rd rs2
  refine ⟨fun cc c h => ?fcc, fun cc c h => ?icc, fun c rs1 h => ?reg⟩
  case fcc => exact fmov_clears ((exec_mkFmovFcc s size cc c rd rs2).symm.trans h)
  case icc => exact fmov_clears ((exec_mkFmovIcc s size cc c rd rs2).symm.trans h)
  case reg => exact fmov_clears ((exec_mkFmovr s size c rd rs1 rs2).symm.trans h)

/-- Settles O26: the check comes first in every floating-point row; RDFPRS and WRFPRS have no check. -/
theorem fpDisabledTraps : Obligations.FpDisabledTraps := by
  unfold Obligations.FpDisabledTraps
  intro s hs
  have hfp : s.fpEnabled = false := State.fpEnabled_eq_false hs
  refine ⟨fun size cc c rd rs2 => ?fcc, fun size cc c rd rs2 => ?icc, fun size c rd rs1 rs2 => ?reg,
    fun c a d => ?fbfcc, fun c a cc p d => ?fbpfcc, fun rd rs1 op2 => ?loads, fun rd => ?rdfprs,
    fun rs1 op2 => ?wrfprs⟩
  case fcc => exact (exec_mkFmovFcc ..).trans (fmov_disabled hfp _)
  case icc => exact (exec_mkFmovIcc ..).trans (fmov_disabled hfp _)
  case reg => exact (exec_mkFmovr ..).trans (fmov_disabled hfp _)
  case fbfcc => exact (exec_mkFbfcc ..).trans (raiseFirst_fpDisabled hfp _ _)
  case fbpfcc => exact (exec_mkFbpfcc ..).trans (raiseFirst_fpDisabled hfp _ _)
  case loads =>
    exact ⟨raiseFirst_fpDisabled hfp _ _, raiseFirst_fpDisabled hfp _ _,
      raiseFirst_fpDisabled hfp _ _, raiseFirst_fpDisabled hfp _ _,
      raiseFirst_fpDisabled hfp _ _⟩
  case rdfprs => exact ⟨_, rfl, State.writeReg_tl .., State.writeReg_errorState ..⟩
  case wrfprs => exact ⟨_, rfl, rfl, rfl⟩

/-- Settles O27: the check of the fields is the last of each of these rows. -/
theorem invalidQuadFieldTraps : Obligations.InvalidQuadFieldTraps := by
  unfold Obligations.InvalidQuadFieldTraps
  intro s rd rs2 hfp
  refine ⟨fun hbelow => ?ftt, fun h => ⟨fun cc c => ?fcc, fun cc c => ?icc, fun c rs1 => ?reg⟩,
    fun h rs1 op2 ha => execLdqf_invalid hfp ha h⟩
  case ftt =>
    rw [takeTrap_fsr_below _ hbelow]
    exact fsrFtt_fsrPutFtt s.fsr 6
  case fcc => exact (exec_mkFmovFcc ..).trans (fmov_quad_invalid hfp h _)
  case icc => exact (exec_mkFmovIcc ..).trans (fmov_quad_invalid hfp h _)
  case reg => exact (exec_mkFmovr ..).trans (fmov_quad_invalid hfp h _)

end Sys2Proof.Machine
end

section
/-! SUPPORT. The family 42_fp_move_and_fsr: the exceptions of an arithmetic FPop, what traps and what
FSR records (R205 to R215). -/

namespace Sys2Proof.Machine

/-! ### What traps (R205, R210) -/

/-- Each exception is its bit, in the order of FSR.cexc (10_state.md R35). -/
theorem FpDetected.getLsbD_bits (d : FpDetected) :
    d.bits.getLsbD 4 = d.nv ∧ d.bits.getLsbD 3 = d.of ∧ d.bits.getLsbD 2 = d.uf ∧
      d.bits.getLsbD 1 = d.dz ∧ d.bits.getLsbD 0 = d.nx := by
  obtain ⟨nv, of, uf, dz, nx⟩ := d
  revert nv of uf dz nx
  decide

/-- The decision function of R210, for masks given one by one. -/
theorem fpTrapBit_masks (mask : FpDetected) (of uf nx : Bool) :
    fpTrapBit mask.bits ⟨false, of, uf, false, nx⟩ =
      if of && mask.of then some cexcOf else if uf && mask.uf then some cexcUf
      else if nx && mask.nx then some cexcNx else none := by
  obtain ⟨-, hof, huf, -, hnx⟩ := mask.getLsbD_bits
  unfold fpTrapBit
  rw [hof, huf, hnx]
  rfl

section
variable {tem : BitVec 5} {d : FpDetected}

/-- A trap is for one exception, detected and enabled. -/
theorem exists_of_fpTrapBit_eq_some {cexc : BitVec 5} (h : fpTrapBit tem d = some cexc) :
    ∃ k, k < 5 ∧ cexc = 1#5 <<< k ∧ d.bits.getLsbD k = true ∧ tem.getLsbD k = true := by
  obtain ⟨hnv, hof, huf, hdz, hnx⟩ := d.getLsbD_bits
  simp only [fpTrapBit, ← hnv, ← hof, ← huf, ← hdz, ← hnx] at h
  split_ifs at h with h4 h1 h3 h2 h0 <;> obtain rfl := Option.some.inj h
  · exact ⟨4, by decide, rfl, Bool.and_eq_true_iff.1 h4⟩
  · exact ⟨1, by decide, rfl, Bool.and_eq_true_iff.1 h1⟩
  · exact ⟨3, by decide, rfl, Bool.and_eq_true_iff.1 h3⟩
  · exact ⟨2, by decide, rfl, Bool.and_eq_true_iff.1 h2⟩
  · exact ⟨0, by decide, rfl, Bool.and_eq_true_iff.1 h0⟩

/-- There is no trap exactly when no detected exception is enabled. -/
theorem fpTrapBit_eq_none_iff : fpTrapBit tem d = none ↔ d.bits &&& tem = 0 := by
  constructor
  case mp =>
    intro h
    obtain ⟨hnv, hof, huf, hdz, hnx⟩ := d.getLsbD_bits
    simp only [fpTrapBit, ← hnv, ← hof, ← huf, ← hdz, ← hnx] at h
    split_ifs at h with h4 h1 h3 h2 h0
    apply BitVec.eq_of_getLsbD_eq
    intro k hk
    rw [BitVec.getLsbD_and]
    interval_cases k <;> exact Bool.eq_false_iff.2 ‹_›
  case mpr =>
    intro h
    by_contra hsome
    obtain ⟨cexc, hcexc⟩ := Option.ne_none_iff_exists'.1 hsome
    obtain ⟨k, -, -, hd, htem⟩ := exists_of_fpTrapBit_eq_some hcexc
    have hbit := congrArg (BitVec.getLsbD · k) h
    simp [hd, htem] at hbit

end

/-- What the trap, or its absence, makes of cexc (R205, R210). -/
theorem fpCexc_of_fpTrapBit_eq {tem : BitVec 5} {d : FpDetected} {trap : Option (BitVec 5)}
    (h : fpTrapBit tem d = trap) :
    (fpTrapBit tem d).isSome = trap.isSome ∧ fpCexc tem d = trap.getD d.bits := by
  subst h
  exact ⟨rfl, rfl⟩

/-- Settles O56: the ten rows are the decision function of R210, row by row. -/
theorem overflowUnderflowInexactTable : Obligations.OverflowUnderflowInexactTable := by
  unfold Obligations.OverflowUnderflowInexactTable
  intro ofm ufm nxm nvm dzm
  have hrow (of uf nx : Bool) :=
    fpCexc_of_fpTrapBit_eq (fpTrapBit_masks ⟨nvm, ofm, ufm, dzm, nxm⟩ of uf nx)
  refine ⟨hrow false false false, ?nx, ?ufnx, ?ofnx, ?nxTrap, ?ufnxTrap, ?uf, ?ufWithNx, ?of,
    ?ofnxTrap⟩
  case nx | nxTrap => rintro rfl; exact hrow false false true
  case ufnx | ufnxTrap => rintro rfl rfl; exact hrow false true true
  case ofnx | ofnxTrap => rintro rfl rfl; exact hrow true false true
  case uf => rintro rfl; exact hrow false true false
  case ufWithNx => rintro rfl; exact hrow false true true
  case of => rintro rfl; exact hrow true false true

/-! ### The end of an FPop (R205, R382) -/

section
variable {s : State} {d : FpDetected} {write : State → State}

theorem completeFpop_trap {cexc : BitVec 5} (h : fpTrapBit (fsrTem s.fsr) d = some cexc) :
    completeFpop d write s = .next (takeTrap (.fpExceptionIeee754 cexc) s) := by
  rw [completeFpop, h]
  rfl

theorem completeFpop_result (h : fpTrapBit (fsrTem s.fsr) d = none) :
    completeFpop d write s = .next (write { s with
      fsr := fsrPutAexc (fsrPutCexc (fsrPutFtt s.fsr 0) d.bits)
        (fsrAexc s.fsr ||| d.bits) }).advance := by
  rw [completeFpop, h]

end

/-- Settles O57: the trap records its bit and ftt in FSR; the result comes after FSR has recorded what
was detected. -/
theorem fpopEndsByTrapOrResult : Obligations.FpopEndsByTrapOrResult := by
  unfold Obligations.FpopEndsByTrapOrResult
  intro s d n v hbelow
  refine ⟨fun htrap => ?trap, fun hresult => ?result⟩
  case trap =>
    obtain ⟨cexc, hcexc⟩ := Option.ne_none_iff_exists'.1 (mt fpTrapBit_eq_none_iff.1 htrap)
    obtain ⟨k, hk, rfl, hd, htem⟩ := exists_of_fpTrapBit_eq_some hcexc
    obtain ⟨-, -, htt⟩ := takeTrap_below (.fpExceptionIeee754 (1#5 <<< k)) s hbelow
    have hfsr : (takeTrap (.fpExceptionIeee754 (1#5 <<< k)) s).fsr =
        fsrPutFtt (fsrPutCexc s.fsr (1#5 <<< k)) 1 := takeTrap_fsr_below _ hbelow
    refine ⟨_, completeFpop_trap hcexc, takeTrap_f .., takeTrap_fprs .., ?_, ?_, htt, k, hk, ?_, hd,
      htem⟩
    · rw [hfsr, fsrPutFtt_and _ _ (by decide), fsrPutCexc_and _ _ (by decide)]
    · rw [hfsr, fsrFtt_fsrPutFtt]
    · rw [hfsr, fsrCexc_fsrPutFtt, fsrCexc_fsrPutCexc]
  case result =>
    refine ⟨_, completeFpop_result (fpTrapBit_eq_none_iff.2 hresult), wroteFloats_setFWord _ n v,
      ?_, ?_, ?_, ?_⟩
    · simp [fsrPutAexc_and, fsrPutCexc_and, fsrPutFtt_and]
    · simp
    · simp
    · simp

/-! ### Tiny results (R211 to R215) -/

section
variable {f : FpFormat} {u r : Rat}

theorem tinyBeforeRounding_iff :
    tinyBeforeRounding f u = true ↔ u ≠ 0 ∧ -f.m < u ∧ u < f.m := by
  simp [tinyBeforeRounding, and_assoc]

/-- The range of u, for each rounding direction, where a result is tiny after rounding (R214). -/
def InUnderflowRange (f : FpFormat) (rd : BitVec 2) (u : Rat) : Prop :=
  (rd = 0 → |u| < f.m * (1 - f.e / 4)) ∧
  (rd = 1 → |u| < f.m) ∧
  (rd = 2 → -f.m < u ∧ u ≤ f.m * (1 - f.e / 2)) ∧
  (rd = 3 → -(f.m * (1 - f.e / 2)) ≤ u ∧ u < f.m)

theorem tinyAfterRounding_iff (rd : BitVec 2) :
    tinyAfterRounding f rd u = true ↔ u ≠ 0 ∧ InUnderflowRange f rd u := by
  obtain rfl | rfl | rfl | rfl : rd = 0 ∨ rd = 1 ∨ rd = 2 ∨ rd = 3 := by revert rd; decide
  all_goals simp [tinyAfterRounding, InUnderflowRange, abs_lt]

theorem detectUnderflow_uf {after ufm : Bool} {rd : BitVec 2} :
    (detectUnderflow after ufm f rd u r).uf = true ↔
      tiny after f rd u = true ∧ (ufm = true ∨ u ≠ r) := by
  simp [detectUnderflow]

theorem detectUnderflow_of_not_tiny {after : Bool} {rd : BitVec 2} (ufm : Bool) (r : Rat)
    (h : tiny after f rd u = false) :
    detectUnderflow after ufm f rd u r = ⟨false, false, false, false, decide (u ≠ r)⟩ := by
  simp [detectUnderflow, h]

theorem detectUnderflow_of_tiny {after : Bool} {rd : BitVec 2} (ufm : Bool) (r : Rat)
    (h : tiny after f rd u = true) :
    detectUnderflow after ufm f rd u r =
      ⟨false, false, ufm || decide (u ≠ r), false, decide (u ≠ r)⟩ := by
  simp [detectUnderflow, h]

end

/-- Settles O59: tiny after rounding is the range of R214. -/
theorem underflowAfterRounding : Obligations.UnderflowAfterRounding := by
  unfold Obligations.UnderflowAfterRounding
  intro f rd u r ufm hu
  have htiny : tiny true f rd u = true ↔ InUnderflowRange f rd u :=
    (tinyAfterRounding_iff rd).trans (and_iff_right hu)
  refine ⟨fun hin => ?inside, fun hout => ?outside, decide_eq_true_iff, rfl, rfl, rfl⟩
  case inside => exact detectUnderflow_uf.trans (and_iff_right (htiny.2 hin))
  case outside => exact Bool.eq_false_iff.2 fun huf => hout (htiny.1 (detectUnderflow_uf.1 huf).1)

/-- Settles O58: an exact result detects underflow when it is tiny and UFM is set, an inexact one when
it is tiny; the rest is the table of R209. -/
theorem underflowTable28 : Obligations.UnderflowTable28 := by
  unfold Obligations.UnderflowTable28
  intro f rd u r ufm nxm ofm nvm dzm _ tem d small outcome
  have htiny : tiny false f rd u = true ↔ small := tinyBeforeRounding_iff
  obtain ⟨hnone, -, hufnx, -, -, hufnxTrap, huf, hufWithNx, -, -⟩ :=
    overflowUnderflowInexactTable ofm ufm nxm nvm dzm
  have houtcome {x : FpDetected} {trap : Bool} {cexc : BitVec 5} (hd : d = x)
      (h : (fpTrapBit tem x).isSome = trap ∧ fpCexc tem x = cexc) : outcome trap cexc := by
    subst hd
    exact h
  refine ⟨fun hexact hbig => ?notTiny, fun hexact hsmall => ?exact, fun hinexact hsmall => ?inexact⟩
  case notTiny =>
    have hd := detectUnderflow_of_not_tiny ufm r (Bool.eq_false_iff.2 (mt htiny.1 hbig))
    rw [decide_eq_false (not_not_intro hexact)] at hd
    exact houtcome hd hnone
  case exact =>
    have hd := detectUnderflow_of_tiny ufm r (htiny.2 hsmall)
    rw [decide_eq_false (not_not_intro hexact), Bool.or_false] at hd
    refine ⟨?enabled, ?disabled⟩ <;> rintro rfl
    case enabled => exact houtcome hd (huf rfl)
    case disabled => exact houtcome hd hnone
  case inexact =>
    have hd := detectUnderflow_of_tiny ufm r (htiny.2 hsmall)
    rw [decide_eq_true hinexact, Bool.or_true] at hd
    exact ⟨fun hufm => houtcome hd (hufWithNx hufm),
      fun hufm hnxm => houtcome hd (hufnxTrap hufm hnxm),
      fun hufm hnxm => houtcome hd (hufnx hufm hnxm)⟩

end Sys2Proof.Machine
end

section
/-! SUPPORT. The family 43_loads: a load into F, the words of a value of several words among them
(R241, R242, R245). -/

namespace Sys2Proof.Machine

/-! ### The words of a value (20_memory.md R85) -/

/-- A field of a number as bits is the number shifted, cut off at the field's width. -/
theorem extractLsb'_ofNat {w start len : Nat} (v : Nat) (hfits : start + len ≤ w) :
    (BitVec.ofNat w v).extractLsb' start len = BitVec.ofNat len (v / 2 ^ start) := by
  apply BitVec.eq_of_getLsbD_eq
  intro i hi
  have hin : start + i < w := by omega
  simp only [BitVec.getLsbD_extractLsb', BitVec.getLsbD_ofNat, hi, hin, Nat.testBit_div_two_pow,
    Nat.add_comm, decide_true, Bool.true_and]

theorem extractLsb'_ofNat_low (v : Nat) :
    (BitVec.ofNat 64 v).extractLsb' 0 32 = BitVec.ofNat 32 v := by
  rw [extractLsb'_ofNat v (by decide), Nat.pow_zero, Nat.div_one]

theorem beValue_append (bs cs : List Byte) :
    beValue (bs ++ cs) = beValue cs + 256 ^ cs.length * beValue bs := by
  unfold beValue
  rw [List.reverse_append, leValue_append, List.length_reverse]

/-- In big-endian order the value of n bytes with k bytes behind them stands above the low k bytes,
whatever i bytes come first. -/
theorem extractLsb'_beValue {w : Nat} (m : Memory) (a i n k : Nat)
    (hfits : 8 * k + 8 * n ≤ w) :
    (BitVec.ofNat w (beValue (readBytes m a (i + n + k)))).extractLsb' (8 * k) (8 * n) =
      BitVec.ofNat (8 * n) (beValue (readBytes m (a + i) n)) := by
  have hpow (j : Nat) : 2 ^ (8 * j) = 256 ^ j := pow_mul 2 8 j
  have hbehind : beValue (readBytes m (a + (i + n)) k) < 256 ^ k := by
    have hlt := bytesValue_lt false (readBytes m (a + (i + n)) k)
    rwa [length_readBytes] at hlt
  rw [extractLsb'_ofNat _ hfits, hpow, readBytes_append, beValue_append, length_readBytes,
    Nat.add_mul_div_left _ _ (by positivity), Nat.div_eq_of_lt hbehind, Nat.zero_add,
    readBytes_append, beValue_append, length_readBytes]
  apply BitVec.eq_of_toNat_eq
  rw [BitVec.toNat_ofNat, BitVec.toNat_ofNat, hpow, Nat.add_mul_mod_self_left]

/-! ### What a load leaves in F (10_state.md R30, R33) -/

section
variable (s : State) (rd : Reg)

/-- A single written marks the lower half dirty. -/
theorem wroteFloats_setF32 (v : BitVec 32) :
    WroteFloats { s with fprs := s.fprs ||| 1 }
      ((s.setF32 (singleReg rd) v).markDirty (singleReg rd)).advance [(singleReg rd, v)] := by
  have h := wroteFloats_setFWord s (singleReg rd) v
  rwa [if_pos (singleReg_toNat_lt rd)] at h

/-- A double written from a number: its high word first. -/
theorem wroteFloats_setF64_ofNat (n : BitVec 6) (v : Nat) :
    WroteFloats { s with fprs := s.fprs ||| (if n.toNat < 32 then 1 else 2) }
      ((s.setF64 n (BitVec.ofNat 64 v)).markDirty n).advance
      [(n, BitVec.ofNat 32 (v / 2 ^ 32)), (n + 1, BitVec.ofNat 32 v)] := by
  rw [← extractLsb'_ofNat (w := 64) v (by decide), ← extractLsb'_ofNat_low]
  exact wroteFloats_setF64 s n _

/-- A quad written from sixteen bytes in big-endian order: its words in the order of memory. -/
theorem wroteFloats_setF128_beValue (n : BitVec 6) (a : Nat) :
    WroteFloats { s with fprs := s.fprs ||| (if n.toNat < 32 then 1 else 2) }
      ((s.setF128 n (BitVec.ofNat 128 (beValue (readBytes s.mem a 16)))).markDirty n).advance
      [(n, BitVec.ofNat 32 (beValue (readBytes s.mem a 4))),
        (n + 1, BitVec.ofNat 32 (beValue (readBytes s.mem (a + 4) 4))),
        (n + 2, BitVec.ofNat 32 (beValue (readBytes s.mem (a + 8) 4))),
        (n + 3, BitVec.ofNat 32 (beValue (readBytes s.mem (a + 12) 4)))] := by
  have h := wroteFloats_setF128 s n (BitVec.ofNat 128 (beValue (readBytes s.mem a 16)))
  rwa [extractLsb'_beValue s.mem a 0 4 12 (by decide),
    extractLsb'_beValue s.mem a 4 4 8 (by decide),
    extractLsb'_beValue s.mem a 8 4 4 (by decide),
    extractLsb'_beValue s.mem a 12 4 0 (by decide)] at h

end

/-- Settles O28: each load, once its checks pass, is a write of F and of the dirty bit; a quad's words
are those of its bytes in memory. -/
theorem floatingLoads : Obligations.FloatingLoads := by
  unfold Obligations.FloatingLoads
  intro s rd rs1 op2 hfp a k n dirty
  refine ⟨?ldf, ?lddf, fun hrd => ⟨fun ha hlittle => ?ldqfLittle, ?ldqf⟩⟩
  case ldf =>
    rintro ⟨ha, hmem⟩
    exact ⟨_, (execLdf_checked hfp ha).trans (withLoad_pass hmem), wroteFloats_setF32 s rd _⟩
  case lddf =>
    rintro ⟨ha, hmem⟩
    exact ⟨_, (execLddf_checked hfp ha).trans (withLoad_pass hmem), wroteFloats_setF64_ofNat s n _⟩
  case ldqfLittle => exact (execLdqf_checked hfp ha hrd).trans (if_pos hlittle)
  case ldqf =>
    rintro ⟨ha, hmem⟩ hendian
    have hbig : ¬ littleAsi k = true := Bool.eq_false_iff.1 hendian
    have hvalue : s.loadValue k a 16 = beValue (readBytes s.mem a.toNat 16) := if_neg hbig
    have hexec := ((execLdqf_checked hfp ha hrd).trans (if_neg hbig)).trans (withLoad_pass hmem)
    rw [hvalue] at hexec
    exact ⟨_, hexec, wroteFloats_setF128_beValue s n a.toNat⟩

end Sys2Proof.Machine
end

section
/-! SUPPORT. The family 43_loads: what a load leaves in FSR (R243, R244), and the values it refuses
(92_eei_decisions.md D22). -/

namespace Sys2Proof.Machine

/-! ### Values with zeros in the reserved fields (10_state.md R35) -/

theorem getLsbD_fieldMask {n lo w i : Nat} (hi : i < n) :
    ((BitVec.allOnes w).setWidth n <<< lo).getLsbD i = decide (lo ≤ i ∧ i < lo + w) := by
  by_cases hlo : lo ≤ i
  · simp [hi, hlo, Nat.sub_lt_iff_lt_add' hlo]
  · simp [hlo]

/-- A mask of one field selects nothing when the field is zero. -/
theorem and_fieldMask_eq_zero_iff {n : Nat} (v : BitVec n) (lo w : Nat) (hfits : lo + w ≤ n) :
    v &&& (BitVec.allOnes w).setWidth n <<< lo = 0 ↔ v.extractLsb' lo w = 0 := by
  constructor <;> intro h <;> apply BitVec.eq_of_getLsbD_eq <;> intro i hi
  case mp =>
    have hbit := congrArg (BitVec.getLsbD · (lo + i)) h
    rw [BitVec.getLsbD_and, getLsbD_fieldMask (by omega)] at hbit
    simpa [hi] using hbit
  case mpr =>
    rw [BitVec.getLsbD_and, getLsbD_fieldMask hi]
    by_cases hfield : lo ≤ i ∧ i < lo + w
    case pos =>
      have hbit := congrArg (BitVec.getLsbD · (i - lo)) h
      have hoff : i - lo < w := by omega
      have hzero : v.getLsbD i = false := by
        simpa [hoff, Nat.add_sub_cancel' hfield.1] using hbit
      simp [hzero]
    case neg => simp [hfield]

theorem and_or_eq_zero_iff {n : Nat} (v m m' : BitVec n) :
    v &&& (m ||| m') = 0 ↔ v &&& m = 0 ∧ v &&& m' = 0 := by
  rw [BitVec.and_or_distrib_left]
  exact BitVec.or_eq_zero_iff

/-- A bit is a field of width one. -/
theorem extractLsb'_one_eq_zero_iff {n : Nat} (v : BitVec n) (i : Nat) :
    v.extractLsb' i 1 = 0 ↔ v.getLsbD i = false := by
  rw [BitVec.getLsbD_eq_extractLsb']
  generalize v.extractLsb' i 1 = b
  revert b
  decide

theorem and_fsrReserved_eq_zero_iff (v : Word) :
    v &&& fsrReserved = 0 ↔ v.extractLsb' 38 26 = 0 ∧ v.extractLsb' 28 2 = 0 ∧
      v.extractLsb' 20 2 = 0 ∧ v.getLsbD 12 = false := by
  have hfields : fsrReserved = (BitVec.allOnes 26).setWidth 64 <<< 38 |||
      ((BitVec.allOnes 2).setWidth 64 <<< 28 ||| ((BitVec.allOnes 2).setWidth 64 <<< 20 |||
        (BitVec.allOnes 1).setWidth 64 <<< 12)) := by decide
  rw [hfields, and_or_eq_zero_iff, and_or_eq_zero_iff, and_or_eq_zero_iff,
    and_fieldMask_eq_zero_iff v 38 26 (by decide), and_fieldMask_eq_zero_iff v 28 2 (by decide),
    and_fieldMask_eq_zero_iff v 20 2 (by decide), and_fieldMask_eq_zero_iff v 12 1 (by decide),
    extractLsb'_one_eq_zero_iff]

section
variable {reserved v : Word} {k : Res}

theorem withReserved_clean (h : v &&& reserved = 0) : withReserved reserved v k = k := if_pos h

theorem withReserved_refused (h : v &&& reserved ≠ 0) :
    withReserved reserved v k = .refused .reservedFieldWritten := if_neg h

end

/-! ### The low half of FSR after a load (R243, R244) -/

/-- FSR[31:0] after a load of v into old: the loaded fields of v, the kept fields of old. -/
def fsrLowAfterLoad (old v : Word) : BitVec 32 :=
  (v.extractLsb' 0 32 &&& fsrLoadMaskLow) ||| (old.extractLsb' 0 32 &&& fsrKeepMaskLow)

theorem fsrAfterLoadWord_low (old v : Word) :
    (fsrAfterLoadWord old (v.extractLsb' 0 32)).extractLsb' 0 32 = fsrLowAfterLoad old v :=
  BitVec.extractLsb'_append_eq_right

theorem fsrAfterLoadWord_high (old : Word) (w : BitVec 32) :
    (fsrAfterLoadWord old w).extractLsb' 32 32 = old.extractLsb' 32 32 :=
  BitVec.extractLsb'_append_eq_left

theorem fsrAfterLoadExtended_low (old d : Word) :
    (fsrAfterLoadExtended old d).extractLsb' 0 32 = fsrLowAfterLoad old d :=
  BitVec.extractLsb'_append_eq_right

/-- LDXFSR loads fcc3, fcc2 and fcc1, and leaves zeros above them. -/
theorem fsrAfterLoadExtended_high (old d : Word) :
    (fsrAfterLoadExtended old d).extractLsb' 32 6 = d.extractLsb' 32 6 ∧
      (fsrAfterLoadExtended old d).extractLsb' 38 26 = 0 :=
  ⟨(BitVec.extractLsb'_append_eq_of_le (by decide)).trans BitVec.extractLsb'_append_eq_right,
    (BitVec.extractLsb'_append_eq_of_le (by decide)).trans BitVec.extractLsb'_append_eq_left⟩

section
variable {old v new : Word} {lo n : Nat}

/-- A field in the low half, by what the two masks are there. -/
theorem extractLsb'_of_fsrLow (h : new.extractLsb' 0 32 = fsrLowAfterLoad old v)
    (hfits : lo + n ≤ 32) :
    new.extractLsb' lo n = (v.extractLsb' lo n &&& fsrLoadMaskLow.extractLsb' lo n) |||
      (old.extractLsb' lo n &&& fsrKeepMaskLow.extractLsb' lo n) := by
  rw [← BitVec.extractLsb'_extractLsb'_of_le (x := new) hfits, h, fsrLowAfterLoad,
    BitVec.extractLsb'_or, BitVec.extractLsb'_and, BitVec.extractLsb'_and,
    BitVec.extractLsb'_extractLsb'_of_le hfits, BitVec.extractLsb'_extractLsb'_of_le hfits]

theorem fsrField_loaded (h : new.extractLsb' 0 32 = fsrLowAfterLoad old v) (hfits : lo + n ≤ 32)
    (hload : fsrLoadMaskLow.extractLsb' lo n = BitVec.allOnes n)
    (hkeep : fsrKeepMaskLow.extractLsb' lo n = 0#n) :
    new.extractLsb' lo n = v.extractLsb' lo n := by
  rw [extractLsb'_of_fsrLow h hfits, hload, hkeep, BitVec.and_allOnes, BitVec.and_zero,
    BitVec.or_zero]

theorem fsrField_kept (h : new.extractLsb' 0 32 = fsrLowAfterLoad old v) (hfits : lo + n ≤ 32)
    (hload : fsrLoadMaskLow.extractLsb' lo n = 0#n)
    (hkeep : fsrKeepMaskLow.extractLsb' lo n = BitVec.allOnes n) :
    new.extractLsb' lo n = old.extractLsb' lo n := by
  rw [extractLsb'_of_fsrLow h hfits, hload, hkeep, BitVec.and_allOnes, BitVec.and_zero,
    BitVec.zero_or]

theorem fsrField_zero (h : new.extractLsb' 0 32 = fsrLowAfterLoad old v) (hfits : lo + n ≤ 32)
    (hload : fsrLoadMaskLow.extractLsb' lo n = 0#n)
    (hkeep : fsrKeepMaskLow.extractLsb' lo n = 0#n) : new.extractLsb' lo n = 0#n := by
  rw [extractLsb'_of_fsrLow h hfits, hload, hkeep, BitVec.and_zero, BitVec.and_zero,
    BitVec.or_zero]

/-- Which fields of the low half a load writes, which it keeps and which it leaves zero. -/
theorem fsrLow_fields (h : new.extractLsb' 0 32 = fsrLowAfterLoad old v) :
    fsrRd new = fsrRd v ∧ fsrTem new = fsrTem v ∧ new.getLsbD 22 = v.getLsbD 22 ∧
      fsrFcc new .fcc0 = fsrFcc v .fcc0 ∧ fsrAexc new = fsrAexc v ∧ fsrCexc new = fsrCexc v ∧
      new.extractLsb' 17 3 = old.extractLsb' 17 3 ∧ fsrFtt new = fsrFtt old ∧
      new.getLsbD 13 = old.getLsbD 13 ∧
      new.extractLsb' 28 2 = 0 ∧ new.extractLsb' 20 2 = 0 ∧ new.getLsbD 12 = false := by
  have loaded (lo n) := fsrField_loaded (lo := lo) (n := n) h
  have kept (lo n) := fsrField_kept (lo := lo) (n := n) h
  have zero (lo n) := fsrField_zero (lo := lo) (n := n) h
  refine ⟨loaded 30 2 ?_ ?_ ?_, loaded 23 5 ?_ ?_ ?_, ?ns, loaded 10 2 ?_ ?_ ?_,
    loaded 5 5 ?_ ?_ ?_, loaded 0 5 ?_ ?_ ?_, kept 17 3 ?_ ?_ ?_, kept 14 3 ?_ ?_ ?_, ?qne,
    zero 28 2 ?_ ?_ ?_, zero 20 2 ?_ ?_ ?_, ?bit12⟩
  case ns =>
    rw [BitVec.getLsbD_eq_extractLsb', BitVec.getLsbD_eq_extractLsb',
      loaded 22 1 (by decide) (by decide) (by decide)]
  case qne =>
    rw [BitVec.getLsbD_eq_extractLsb', BitVec.getLsbD_eq_extractLsb',
      kept 13 1 (by decide) (by decide) (by decide)]
  case bit12 =>
    exact (extractLsb'_one_eq_zero_iff new 12).1 (zero 12 1 (by decide) (by decide) (by decide))
  all_goals decide

end

/-- Settles O29: both loads leave the same low half of FSR; the high half stays after LDFSR and takes
its three condition codes from memory after LDXFSR. -/
theorem fsrLoads : Obligations.FsrLoads := by
  unfold Obligations.FsrLoads
  intro s rs1 op2 hfp a k clean low
  refine ⟨?ldfsr, ?ldxfsr⟩
  case ldfsr =>
    rintro ⟨ha, hmem⟩ w
    have hexec := (execLdfsr_checked hfp ha).trans (withLoad_pass hmem)
    have hlow : w.extractLsb' 0 32 = BitVec.ofNat 32 (s.valueAt k a 4) := extractLsb'_ofNat_low ..
    refine ⟨fun hclean => ?completes, fun hdirty => ?refused⟩
    case completes =>
      have hnew := fsrAfterLoadWord_low s.fsr w
      rw [hlow] at hnew
      exact ⟨_, hexec.trans (withReserved_clean ((and_fsrReserved_eq_zero_iff w).2 hclean)), rfl,
        fsrLow_fields hnew, fsrAfterLoadWord_high ..⟩
    case refused =>
      exact hexec.trans (withReserved_refused (mt (and_fsrReserved_eq_zero_iff w).1 hdirty))
  case ldxfsr =>
    rintro ⟨ha, hmem⟩ d
    have hexec := (execLdxfsr_checked hfp ha).trans (withLoad_pass hmem)
    refine ⟨fun hclean => ?completes, fun hdirty => ?refused⟩
    case completes =>
      exact ⟨_, hexec.trans (withReserved_clean ((and_fsrReserved_eq_zero_iff d).2 hclean)), rfl,
        fsrLow_fields (fsrAfterLoadExtended_low s.fsr d), fsrAfterLoadExtended_high s.fsr d⟩
    case refused =>
      exact hexec.trans (withReserved_refused (mt (and_fsrReserved_eq_zero_iff d).1 hdirty))

end Sys2Proof.Machine
end

section
/-! SUPPORT. The family 44_movr_nop: what the six MOVr do, by the outcome of their test, and NOP
(R260 to R266, R268). -/

namespace Sys2Proof.Machine

/-- The row of a register condition, executed (R261 to R266). -/
theorem exec_mkMovr (s : State) (c : RCond) (rd rs1 : Reg) (v : MovrOperand) :
    exec (mkMovr c rd rs1 v) s = movr c rd rs1 v s := by cases c <;> rfl

/-- What a MOVr does, by the outcome of its test: one register write or none (R260). -/
theorem movr_moves (s : State) (c : RCond) (rd rs1 : Reg) (v : MovrOperand) :
    ∃ t, movr c rd rs1 v s = .next t ∧
      (rcondTest c (s.readReg rs1) = true → WroteInts s t [(s.cellOf rd, s.movrOperand v)]) ∧
      (rcondTest c (s.readReg rs1) = false → t = s.nextWithMem s.mem) := by
  refine ⟨_, rfl, fun htest => ?moves, fun htest => ?stays⟩
  case moves =>
    rw [if_pos htest]
    exact wroteInts_writeReg ..
  case stays => exact if_neg (Bool.eq_false_iff.1 htest)

theorem exec_nop (s : State) : exec .nop s = .next (s.nextWithMem s.mem) := rfl

/-- Settles O38: each MOVr row is the move on its condition, and NOP is the advance alone. -/
theorem movrMovesAndNopDoesNot : Obligations.MovrMovesAndNopDoesNot := by
  unfold Obligations.MovrMovesAndNopDoesNot
  refine ⟨fun s c rd rs1 v => ?movr, exec_nop⟩
  case movr =>
    intro value
    have hvalue : value = s.movrOperand v := by cases v <;> rfl
    rw [exec_mkMovr, hvalue]
    exact movr_moves s c rd rs1 v

end Sys2Proof.Machine
end

section
/-! SUPPORT. The family 45_state_register_access: the state registers, TICK and SIR (R281 to R295). -/

namespace Sys2Proof.Machine

open Sys2Proof.Config

/-! ### The state registers (R281 to R294) -/

/-- An instruction that ends by writing rd completes, whatever the value. -/
theorem writeAndAdvance_completes (s : State) (rd : Reg) (v : Word) :
    ∃ t, writeAndAdvance s rd v = .next t ∧ WroteInts s t [(s.cellOf rd, v)] :=
  ⟨_, rfl, wroteInts_writeReg s rd v⟩

section
variable {s : State}

theorem maskAddr_of_am_clear (h : s.am = false) (a : Word) : s.maskAddr a = a :=
  if_neg (Bool.eq_false_iff.1 h)

/-- With PSTATE.AM = 1 an address is its low 32 bits (10_state.md R26). -/
theorem maskAddr_of_am_set (h : s.am = true) (a : Word) :
    s.maskAddr a = (a.extractLsb' 0 32).setWidth 64 := by
  have hmask : a &&& 0xFFFFFFFF#64 = (a.extractLsb' 0 32).setWidth 64 := by
    apply BitVec.eq_of_toNat_eq
    rw [BitVec.toNat_and, BitVec.toNat_setWidth_of_le (by decide), BitVec.extractLsb'_toNat]
    exact Nat.and_two_pow_sub_one_eq_mod a.toNat 32
  exact (if_pos h).trans hmask

end

/-- Settles O39: each read is one register write, and RDPC reads the PC as the machine addresses with
it. -/
theorem stateRegisterReads : Obligations.StateRegisterReads := by
  unfold Obligations.StateRegisterReads
  intro s rd reads
  refine ⟨?rdy, ?rdccr, ?rdasi, ?rdfprs, fun ham => ?rdpcFull, fun ham => ?rdpcLow, fun _ => rfl⟩
  case rdpcFull =>
    rw [← maskAddr_of_am_clear ham s.pc]
    exact writeAndAdvance_completes ..
  case rdpcLow =>
    rw [← maskAddr_of_am_set ham s.pc]
    exact writeAndAdvance_completes ..
  all_goals exact writeAndAdvance_completes ..

/-- Settles O40: a write of a state register is its update and the advance, with no check before it. -/
theorem stateRegisterWrites : Obligations.StateRegisterWrites := by
  unfold Obligations.StateRegisterWrites
  intro s rs1 op2 v t
  exact ⟨rfl, rfl, rfl, rfl, fun _ => rfl⟩

/-! ### TICK (R285, R428) -/

theorem drawTick_npt (s : State) : s.drawTick.npt = s.npt := by
  show BitVec.getLsbD (s.tick.extractLsb' 63 1 ++ _ : BitVec 64) 63 = s.tick.getLsbD 63
  rw [BitVec.getLsbD_append]
  simp

/-- A read of TICK goes to rd once the counter is drawn, and TICK holds what was read. -/
theorem readTick_completes (s : State) (rd : Reg) :
    ∃ t, writeAndAdvance s.drawTick rd s.drawTick.tick = .next t ∧
      t.tick.getLsbD 63 = s.tick.getLsbD 63 ∧
      WroteInts { s with tick := t.tick, draws := t.draws } t [(s.cellOf rd, t.tick)] := by
  have htick : (s.drawTick.writeReg rd s.drawTick.tick).advance.tick = s.drawTick.tick := by simp
  have hdraws : (s.drawTick.writeReg rd s.drawTick.tick).advance.draws = s.drawTick.draws := by simp
  refine ⟨_, rfl, ?npt, ?wrote⟩
  case npt =>
    rw [htick]
    exact drawTick_npt s
  case wrote =>
    rw [htick, hdraws]
    exact wroteInts_writeReg s.drawTick rd s.drawTick.tick

/-- Settles O41: the one check of RDTICK fails exactly in privileged mode or with NPT = 0. -/
theorem tickReads : Obligations.TickReads := by
  unfold Obligations.TickReads
  intro s rd
  refine ⟨fun hmay => ?completes, fun hpriv hnpt => ?traps⟩
  case completes =>
    have hcheck : (!s.priv && s.npt) = false := by
      rcases hmay with hpriv | hnpt
      · rw [hpriv]
        rfl
      · exact (congrArg (!s.priv && ·) hnpt).trans (Bool.and_false _)
    have hexec : exec (.rdtick rd) s = writeAndAdvance s.drawTick rd s.drawTick.tick :=
      if_neg (Bool.eq_false_iff.1 hcheck)
    rw [hexec]
    exact readTick_completes s rd
  case traps =>
    have hcheck : (!s.priv && s.npt) = true := by
      rw [hpriv]
      exact hnpt
    exact if_pos hcheck

/-! ### RED_state entry (R374, R421, R422) -/

/-- The address of a RED_state vector is RSTVaddr plus the offset, as RSTVaddr's low byte is zero. -/
theorem redVectorAddr_eq_add {p : Params} (hp : p.wf) (offset : BitVec 8) :
    redVectorAddr p offset = p.rstvaddr + offset.setWidth 64 := by
  obtain ⟨-, -, -, -, -, -, hlow⟩ := hp
  have hlow : p.rstvaddr.toNat % 256 = 0 := by
    have h := congrArg BitVec.toNat hlow
    rwa [BitVec.extractLsb'_toNat] at h
  have haddr := p.rstvaddr.isLt
  have hoff := offset.isLt
  apply BitVec.eq_of_toNat_eq
  unfold redVectorAddr
  rw [BitVec.toNat_append, BitVec.extractLsb'_toNat, ← Nat.shiftLeft_add_eq_or_of_lt hoff,
    BitVec.toNat_add, BitVec.toNat_setWidth_of_le (by decide), Nat.shiftLeft_eq,
    Nat.shiftRight_eq_div_pow]
  omega

/-- Of PSTATE's bits 7:0 every one is implemented (R38). -/
theorem and_pstateMask_low (v : BitVec 12) (p : Params) :
    (v &&& pstateMask p).extractLsb' 0 8 = v.extractLsb' 0 8 := by
  have hmask : (pstateMask p).extractLsb' 0 8 = BitVec.allOnes 8 := by
    unfold pstateMask
    rw [BitVec.extractLsb'_append_eq_of_add_le (by omega)]
    rfl
  rw [BitVec.extractLsb'_and, hmask]
  exact BitVec.and_allOnes

/-- CLE is implemented (R38). -/
theorem and_pstateMask_cle (v : BitVec 12) (p : Params) :
    (v &&& pstateMask p).getLsbD 9 = v.getLsbD 9 := by
  have hmask : (pstateMask p).getLsbD 9 = true := by
    unfold pstateMask
    rw [BitVec.getLsbD_append]
    rfl
  rw [BitVec.getLsbD_and, hmask, Bool.and_true]

section
variable (v : BitVec 12) (tle : Bool) (pid : BitVec 2)

/-- MM 0, RED 1, PEF 1, AM 0, PRIV 1, IE 0, AG 1 (R422). -/
theorem redPstate_low : (redPstate v tle pid).extractLsb' 0 8 = 0x35 := by
  unfold redPstate
  rw [BitVec.append_assoc]
  exact BitVec.extractLsb'_append_eq_of_add_le (by omega)

/-- CLE takes the old TLE (R422). -/
theorem redPstate_cle : (redPstate v tle pid).getLsbD 9 = v.getLsbD 8 := by
  have hbit : (redPstate v tle pid).getLsbD 9 = (v.extractLsb' 8 1).getLsbD 0 := by
    unfold redPstate
    rw [BitVec.getLsbD_append, BitVec.getLsbD_append, BitVec.getLsbD_append, BitVec.getLsbD_append]
    rfl
  exact hbit.trans (BitVec.getLsbD_extractLsb' ..)

end

/-- A RED_state entry replaces one level of the trap stack, the one it enters. -/
theorem redTrap_trapRegs (e : Exc) (s : State) (n : BitVec 3) :
    (redTrap e s).trapRegs n = if (redTrap e s).tl = n then trapFrame e s else s.trapRegs n :=
  State.trapRegs_setTrapRegs ..

/-- A RED_state entry that is no window trap changes TL, one level of the trap stack, PSTATE and the
program counters, and draws its free values. -/
theorem redTrap_frame {e : Exc} {s : State} (hcwp : trapCwp e s = s.cwp) :
    redTrap e s = { s with
      tl := (redTrap e s).tl
      trapStack := (redTrap e s).trapStack
      pstate := (redTrap e s).pstate
      pc := (redTrap e s).pc
      npc := (redTrap e s).npc
      draws := (redTrap e s).draws } := by
  unfold redTrap
  rw [hcwp]
  rfl

/-! ### SIR (R295) -/

section
variable {s : State} (simm13 : BitVec 13)

theorem exec_sir_enabled (h : s.priv = true ∨ s.sirEnable = true) :
    exec (.sir simm13) s = .next (takeTrap .softwareInitiatedReset s) :=
  if_pos (Bool.or_eq_true_iff.2 h)

theorem exec_sir_disabled (hpriv : s.priv = false) (hsir : s.sirEnable = false) :
    exec (.sir simm13) s = .next (s.nextWithMem s.mem) :=
  if_neg (by rw [hpriv, hsir]; decide)

/-- Below MAXTL the software-initiated reset is a RED_state entry from every level (R424). -/
theorem takeTrap_sir_below (h : s.tl.toNat < s.params.maxtl) :
    takeTrap .softwareInitiatedReset s = redTrap .softwareInitiatedReset s :=
  if_neg (Nat.not_le.2 h)

end

/-- Settles O42: SIR is the RED_state entry of the software-initiated reset, error_state or the
advance. -/
theorem sirResetsOrDoesNothing : Obligations.SirResetsOrDoesNothing := by
  unfold Obligations.SirResetsOrDoesNothing
  intro s simm13 hlegal
  refine ⟨exec_sir_disabled simm13, fun hmay => ⟨fun htl => ?stuck,
    fun htl => ⟨redTrap .softwareInitiatedReset s, ?next, ?frame, ?saved, fun n hn => ?other, ?low,
      ?cle⟩⟩⟩
  case stuck =>
    rw [exec_sir_enabled simm13 hmay, takeTrap_max _ _ (Nat.le_of_eq htl.symm)]
  case next => rw [exec_sir_enabled simm13 hmay, takeTrap_sir_below htl]
  case frame =>
    have hlevel : (redTrap .softwareInitiatedReset s).tl = s.tl + 1 := by
      rw [← takeTrap_sir_below htl]
      exact (takeTrap_below _ s htl).1
    have hpc : (redTrap .softwareInitiatedReset s).pc = s.params.rstvaddr + 0x80 :=
      redVectorAddr_eq_add hlegal.params 0x80
    have hnpc : (redTrap .softwareInitiatedReset s).npc = s.params.rstvaddr + 0x84 := by
      show (redTrap .softwareInitiatedReset s).pc + 4 = _
      rw [hpc, BitVec.add_assoc]
      rfl
    rw [← hlevel, ← hpc, ← hnpc]
    exact redTrap_frame rfl
  case saved => exact (redTrap_trapRegs ..).trans (if_pos rfl)
  case other => exact (redTrap_trapRegs ..).trans (if_neg hn.symm)
  case low =>
    rw [redTrap_pstate, and_pstateMask_low]
    exact redPstate_low ..
  case cle =>
    show BitVec.getLsbD (redTrap .softwareInitiatedReset s).pstate 9 = _
    rw [redTrap_pstate, and_pstateMask_cle]
    exact redPstate_cle ..

end Sys2Proof.Machine
end

section
/-! SUPPORT. The family 45_state_register_access: the privileged registers (R296, R297). -/

namespace Sys2Proof.Machine

open Sys2Proof.Config

/-! ### The checks of privileged instructions (R296, R297, R310) -/

section
variable {s : State} {k : Res}

theorem raiseFirst_nonprivileged (h : s.priv = false) (cs : List (Bool × Exc)) :
    raiseFirst s ((!s.priv, .privilegedOpcode) :: cs) k = raise .privilegedOpcode s := by
  rw [raiseFirst_cons, h]
  rfl

theorem raiseFirst_inPrivileged (h : s.priv = true) (cs : List (Bool × Exc)) :
    raiseFirst s ((!s.priv, .privilegedOpcode) :: cs) k = raiseFirst s cs k := by
  rw [raiseFirst_cons, h]
  rfl

/-- In privileged mode RDPR and WRPR go on for a register that is listed, and where it is an element of
the trap stack for TL > 0. -/
theorem privChecks_pass {unlisted : Bool} {n : Reg} (h : s.priv = true) (hn : unlisted = false)
    (htl : 3 < n.toNat ∨ s.tl ≠ 0) :
    raiseFirst s [(!s.priv, .privilegedOpcode), (unlisted, .illegalInstruction),
      (decide (n.toNat ≤ 3) && decide (s.tl = 0), .illegalInstruction)] k = k := by
  have hstack : (decide (n.toNat ≤ 3) && decide (s.tl = 0)) = false := by
    rcases htl with hn | htl
    · rw [decide_eq_false (Nat.not_le.2 hn), Bool.false_and]
    · rw [decide_eq_false htl, Bool.and_false]
  rw [raiseFirst_inPrivileged h, raiseFirst_cons, hn, raiseFirst_cons, hstack]
  rfl

/-- In privileged mode RDPR and WRPR are illegal for a register that is not listed, and for an element
of the trap stack at TL = 0. -/
theorem privChecks_illegal {unlisted : Bool} {n : Reg} (h : s.priv = true)
    (hn : unlisted = true ∨ (n.toNat ≤ 3 ∧ s.tl = 0)) :
    raiseFirst s [(!s.priv, .privilegedOpcode), (unlisted, .illegalInstruction),
      (decide (n.toNat ≤ 3) && decide (s.tl = 0), .illegalInstruction)] k =
        raise .illegalInstruction s :=
  (raiseFirst_inPrivileged h _).trans (raiseFirst_privRegister hn)

end

/-! ### The window registers at their implemented width (R44, R45) -/

section
variable {p : Params} (hp : p.wf)
include hp

/-- A value in 0..NWINDOWS-1 has no bit above the implemented width. -/
theorem and_winregMask {x : BitVec 5} (hx : x.toNat < p.nwindows) : x &&& winregMask p = x := by
  obtain ⟨-, -, -, -, hwidth, hbits, -⟩ := hp
  have hpow : 2 ^ p.winregBits ≤ 2 ^ 5 := Nat.pow_le_pow_right (by decide) hbits
  apply BitVec.eq_of_toNat_eq
  unfold winregMask
  rw [BitVec.toNat_and, BitVec.toNat_ofNat, Nat.mod_eq_of_lt (by omega),
    Nat.and_two_pow_sub_one_eq_mod, Nat.mod_eq_of_lt (by omega)]

theorem winregRead_eq {x : BitVec 5} (hx : x.toNat < p.nwindows) :
    winregRead p x = x.setWidth 64 := congrArg (BitVec.setWidth 64) (and_winregMask hp hx)

theorem winregWrite_eq_some {v : Word} (hv : (v.extractLsb' 0 5).toNat < p.nwindows) :
    winregWrite p v = some (v.extractLsb' 0 5) :=
  (if_neg (by omega)).trans (congrArg some (and_winregMask hp hv))

theorem winregWrite_eq_none {v : Word} (hv : p.nwindows ≤ (v.extractLsb' 0 5).toNat) :
    winregWrite p v = none := by
  obtain ⟨hlow, -⟩ := hp
  exact if_pos (by omega)

end

section
variable {s : State} {v : Word} (f : BitVec 5 → State) (hp : s.params.wf)
include hp

theorem withWinreg_inRange (hv : (v.extractLsb' 0 5).toNat < s.params.nwindows) :
    withWinreg s v f = .next (f (v.extractLsb' 0 5)).advance := by
  unfold withWinreg
  rw [winregWrite_eq_some hp hv]

theorem withWinreg_outOfRange (hv : s.params.nwindows ≤ (v.extractLsb' 0 5).toNat) :
    withWinreg s v f = .fault .windowRegisterOutOfRange := by
  unfold withWinreg
  rw [winregWrite_eq_none hp hv]

end

/-! ### RDPR (R296) -/

section
variable {s : State} (rd : Reg) {n : Reg}

theorem exec_rdpr_listed (hpriv : s.priv = true) (hn : n.toNat < 15 ∨ 30 < n.toNat)
    (htl : 3 < n.toNat ∨ s.tl ≠ 0) :
    exec (.rdpr rd n) s = writeAndAdvance (s.privRead n) rd ((s.privRead n).readPriv n) := by
  have hlisted : (decide (15 ≤ n.toNat) && decide (n.toNat ≤ 30)) = false := by
    rw [← Bool.decide_and]
    exact decide_eq_false (by omega)
  exact privChecks_pass hpriv hlisted htl

/-- A read of a privileged register other than TICK is one register write. -/
theorem exec_rdpr_reads (hpriv : s.priv = true) (hn : n.toNat < 15 ∨ 30 < n.toNat)
    (htl : 3 < n.toNat ∨ s.tl ≠ 0) (htick : n.toNat ≠ 4) {v : Word} (hv : s.readPriv n = v) :
    ∃ t, exec (.rdpr rd n) s = .next t ∧ WroteInts s t [(s.cellOf rd, v)] := by
  have hread : s.privRead n = s := if_neg fun h => htick (congrArg BitVec.toNat h)
  rw [exec_rdpr_listed rd hpriv hn htl, hread, hv]
  exact writeAndAdvance_completes s rd v

end

/-- Settles O43: RDPR writes what the register reads as, which in a legal state is the register
itself, as nothing is held outside the implemented fields. -/
theorem privilegedReads : Obligations.PrivilegedReads := by
  unfold Obligations.PrivilegedReads
  intro s rd hlegal hpriv reads top
  have hstack {n : Reg} {v : Word} (htl : s.tl ≠ 0) (hn : n.toNat ≤ 3) (hv : s.readPriv n = v) :
      reads n v :=
    exec_rdpr_reads rd hpriv (by omega) (.inr htl) (by omega) hv
  have hother {n : Reg} {v : Word} (hn : 4 < n.toNat ∧ n.toNat < 15 ∨ 30 < n.toNat)
      (hv : s.readPriv n = v) : reads n v :=
    exec_rdpr_reads rd hpriv (by omega) (.inl (by omega)) (by omega) hv
  have hwin {n : Reg} {x : BitVec 5} (hn : 4 < n.toNat ∧ n.toNat < 15)
      (hx : x.toNat < s.params.nwindows) (hv : s.readPriv n = winregRead s.params x) :
      reads n (x.setWidth 64) :=
    hother (.inl hn) (hv.trans (winregRead_eq hlegal.params hx))
  refine ⟨fun htl => ⟨?tpc, ?tnpc, ?tstate, ?tt⟩, ?tick, ?tba, ?pstate, ?tl, ?pil, ?cwp, ?cansave,
    ?canrestore, ?cleanwin, ?otherwin, ?wstate, ?ver⟩
  case tpc | tnpc | tt => exact hstack htl (by decide) rfl
  case tstate => exact hstack htl (by decide) (hlegal.tstate s.tl)
  case tick =>
    rw [exec_rdpr_listed rd hpriv (.inl (by decide)) (.inl (by decide))]
    exact readTick_completes s rd
  case pstate => exact hother (by decide) (congrArg (BitVec.setWidth 64) hlegal.pstate)
  case cwp => exact hwin (by decide) hlegal.cwp rfl
  case cansave => exact hwin (by decide) hlegal.cansave rfl
  case canrestore => exact hwin (by decide) hlegal.canrestore rfl
  case cleanwin => exact hwin (by decide) hlegal.cleanwin rfl
  case otherwin => exact hwin (by decide) hlegal.otherwin rfl
  all_goals exact hother (by decide) rfl

/-! ### WRPR (R297) -/

/-- No reserved field of TSTATE is written with a one (R40). -/
theorem and_tstateReserved_eq_zero_iff (v : Word) :
    v &&& tstateReserved = 0 ↔
      v.extractLsb' 40 24 = 0 ∧ v.extractLsb' 20 4 = 0 ∧ v.extractLsb' 5 3 = 0 := by
  have hfields : tstateReserved = (BitVec.allOnes 24).setWidth 64 <<< 40 |||
      ((BitVec.allOnes 4).setWidth 64 <<< 20 ||| (BitVec.allOnes 3).setWidth 64 <<< 5) := by decide
  rw [hfields, and_or_eq_zero_iff, and_or_eq_zero_iff, and_fieldMask_eq_zero_iff v 40 24 (by decide),
    and_fieldMask_eq_zero_iff v 20 4 (by decide), and_fieldMask_eq_zero_iff v 5 3 (by decide)]

section
variable {s : State} {n rs1 : Reg} {op2 : Operand2}

theorem exec_wrpr_listed (hpriv : s.priv = true) (hn : n.toNat < 15)
    (htl : 3 < n.toNat ∨ s.tl ≠ 0) :
    exec (.wrpr n rs1 op2) s = s.writePriv n (s.wrValue rs1 op2) :=
  privChecks_pass hpriv (decide_eq_false (Nat.not_le.2 hn)) htl

/-- Registers 9 to 13 are the window registers: none of them takes a value above NWINDOWS-1 (R45). -/
theorem writePriv_winreg_outOfRange {v : Word} (hp : s.params.wf) (hlow : 9 ≤ n.toNat)
    (hhigh : n.toNat ≤ 13) (hv : s.params.nwindows ≤ (v.extractLsb' 0 5).toNat) :
    s.writePriv n v = .fault .windowRegisterOutOfRange := by
  obtain hn | hn | hn | hn | hn :
      n.toNat = 9 ∨ n.toNat = 10 ∨ n.toNat = 11 ∨ n.toNat = 12 ∨ n.toNat = 13 := by omega
  all_goals
    simp only [State.writePriv, hn]
    exact withWinreg_outOfRange _ hp hv

end

/-- Settles O44: once its checks pass WRPR is the write of its register, which stops on no value the
register admits. -/
theorem privilegedWrites : Obligations.PrivilegedWrites := by
  unfold Obligations.PrivilegedWrites
  intro s rs1 op2 hlegal hpriv v t writes top stack x clean
  have hclean : v &&& tstateReserved = 0 ↔ clean := and_tstateReserved_eq_zero_iff v
  have hstack {n : Reg} (htl : s.tl ≠ 0) (hn : n.toNat < 15) :
      exec (.wrpr n rs1 op2) s = s.writePriv n v := exec_wrpr_listed hpriv hn (.inr htl)
  have hother {n : Reg} (hn : 3 < n.toNat ∧ n.toNat < 15) :
      exec (.wrpr n rs1 op2) s = s.writePriv n v := exec_wrpr_listed hpriv hn.2 (.inl hn.1)
  have hwin {n : Reg} (f : BitVec 5 → State) (hx : x.toNat < s.params.nwindows)
      (hn : 3 < n.toNat ∧ n.toNat < 15) (hw : s.writePriv n v = withWinreg s v f) :
      writes n (f x).advance :=
    ((hother hn).trans hw).trans (withWinreg_inRange f hlegal.params hx)
  refine ⟨fun htl => ⟨?tpc, ?tnpc, fun hc => ?tstate, fun hc => ?reserved, ?tt⟩, ?tick, ?tba,
    fun hmm => ?pstate, fun hmax => ?tl, ?pil,
    fun hx => ⟨?cwp, ?cansave, ?canrestore, ?cleanwin, ?otherwin⟩, ?wstate⟩
  case tpc | tnpc | tt => exact hstack htl (by decide)
  case tstate => exact (hstack htl (by decide)).trans (withReserved_clean (hclean.2 hc))
  case reserved =>
    exact (hstack htl (by decide)).trans (withReserved_refused fun h => hc (hclean.1 h))
  case pstate => exact (hother (by decide)).trans (if_neg hmm)
  case tl => exact (hother (by decide)).trans (if_neg (Nat.not_lt.2 hmax))
  case cwp => exact hwin (fun x => { s with cwp := x }) hx (by decide) rfl
  case cansave => exact hwin (fun x => { s with cansave := x }) hx (by decide) rfl
  case canrestore => exact hwin (fun x => { s with canrestore := x }) hx (by decide) rfl
  case cleanwin => exact hwin (fun x => { s with cleanwin := x }) hx (by decide) rfl
  case otherwin => exact hwin (fun x => { s with otherwin := x }) hx (by decide) rfl
  all_goals exact hother (by decide)

/-! ### Traps and stops -/

/-- Settles O45: the mode is the first check, the register the second, and the write stops on the
values its register does not admit. -/
theorem privilegedInstructionsThatTrapOrStop : Obligations.PrivilegedInstructionsThatTrapOrStop := by
  unfold Obligations.PrivilegedInstructionsThatTrapOrStop
  intro s rd rs1 op2 traps v
  refine ⟨fun hpriv => ⟨?rdprUser, ?wrprUser, ?savedUser, ?restoredUser⟩, fun hpriv =>
    ⟨fun hlow hhigh => ?rdprUnlisted, fun hlow => ?wrprUnlisted, fun htl hn => ?rdprStack,
      fun htl hn => ?wrprStack, fun hp hv hlow hhigh => ?winreg, fun hmm => ?pstate,
      fun hmax => ?tl⟩⟩
  case rdprUser | wrprUser | savedUser | restoredUser => exact raiseFirst_nonprivileged hpriv _
  case rdprUnlisted => exact privChecks_illegal hpriv (.inl (by simp [hlow, hhigh]))
  case wrprUnlisted => exact privChecks_illegal hpriv (.inl (decide_eq_true hlow))
  case rdprStack | wrprStack => exact privChecks_illegal hpriv (.inr ⟨hn, htl⟩)
  case winreg =>
    rw [exec_wrpr_listed hpriv (by omega) (.inl (by omega))]
    exact writePriv_winreg_outOfRange hp hlow hhigh hv
  case pstate => exact (exec_wrpr_listed hpriv (by decide) (.inl (by decide))).trans (if_pos hmm)
  case tl => exact (exec_wrpr_listed hpriv (by decide) (.inl (by decide))).trans (if_pos hmax)

end Sys2Proof.Machine
end

section
/-! SUPPORT. The family 46_register_windows: SAVE, RESTORE, SAVED and RESTORED by the outcome of their
checks and counts (R311 to R316, R318). -/

namespace Sys2Proof.Machine

open Sys2Proof.Config

/-! ### Counting a window register (R44, R45, R318) -/

section
variable {p : Params} {r : BitVec 5}

theorem winregInc_inRange (h : r.toNat + 1 < p.nwindows) : winregInc p r = some (r + 1) :=
  if_neg (by omega)

theorem winregInc_full (hp : p.wf) (h : p.nwindows ≤ r.toNat + 1) : winregInc p r = none := by
  obtain ⟨hlow, -⟩ := hp
  exact if_pos (by omega)

theorem winregDec_nonzero (h : r ≠ 0) : winregDec r = some (r - 1) := if_neg h

theorem winregDec_zero (h : r = 0) : winregDec r = none := if_pos h

theorem toNat_winreg_succ (hp : p.wf) (h : r.toNat + 1 ≤ p.nwindows - 1) :
    (r + 1).toNat = r.toNat + 1 := by
  obtain ⟨-, hhigh, -⟩ := hp
  exact BitVec.toNat_add_of_lt (show r.toNat + 1 < 2 ^ 5 by omega)

theorem toNat_winreg_pred (h : r ≠ 0) : (r - 1).toNat + 1 = r.toNat := by
  have hpos : r.toNat ≠ 0 := fun h0 => h (BitVec.eq_of_toNat_eq h0)
  have hone : (1 : BitVec 5) ≤ r := Nat.one_le_iff_ne_zero.2 hpos
  rw [BitVec.toNat_sub_of_le hone]
  exact Nat.sub_add_cancel hone

end

/-! ### Windows modulo NWINDOWS (R23, R312) -/

theorem windowPlus_toNat {p : Params} (hp : p.wf) (w : BitVec 5) (n : Nat) :
    (windowPlus p w n).toNat = (w.toNat + n) % p.nwindows := by
  obtain ⟨hlow, hhigh, -⟩ := hp
  have hlt : (w.toNat + n) % p.nwindows < p.nwindows := Nat.mod_lt _ (by omega)
  exact (BitVec.toNat_ofNat _ 5).trans (Nat.mod_eq_of_lt (by omega))

/-- The window before window 0 is the last one, and before any other the one numbered one less. -/
theorem windowMinusOne_eq {p : Params} {w : BitVec 5} (hp : p.wf) (hw : w.toNat < p.nwindows) :
    windowMinusOne p w = if w = 0 then BitVec.ofNat 5 (p.nwindows - 1) else w - 1 := by
  have hpos : 3 ≤ p.nwindows := hp.1
  apply BitVec.eq_of_toNat_eq
  rw [windowMinusOne, windowPlus_toNat hp]
  split
  case isTrue h =>
    have hlast : p.nwindows - 1 < 2 ^ 5 := by have hhigh := hp.2.1; omega
    rw [h, BitVec.toNat_ofNat, Nat.mod_eq_of_lt hlast]
    exact (congrArg (· % p.nwindows) (Nat.zero_add _)).trans (Nat.mod_eq_of_lt (by omega))
  case isFalse h =>
    have hpred := toNat_winreg_pred h
    have hwrap : w.toNat + (p.nwindows - 1) = (w - 1).toNat + p.nwindows := by omega
    rw [hwrap, Nat.add_mod_right]
    exact Nat.mod_eq_of_lt (by omega)

/-! ### SAVE and RESTORE past their window traps (R311, R312) -/

section
variable {s : State} {k : Res}

theorem saveChecks_pass (hs : s.cansave ≠ 0) (hclean : s.cleanwin ≠ s.canrestore) :
    raiseFirst s [(decide (s.cansave = 0), s.spillExc),
      (decide (s.cleanwin - s.canrestore = 0), .cleanWindow)] k = k := by
  have hclean : s.cleanwin - s.canrestore ≠ 0 := fun h => hclean (sub_eq_zero.1 h)
  rw [raiseFirst_cons, decide_eq_false hs, raiseFirst_cons, decide_eq_false hclean]
  rfl

theorem restoreCheck_pass (hr : s.canrestore ≠ 0) :
    raiseFirst s [(decide (s.canrestore = 0), s.fillExc)] k = k := by
  rw [raiseFirst_cons, decide_eq_false hr]
  rfl

variable (rd rs1 : Reg) (op2 : Operand2)

theorem exec_save_completes (hs : s.cansave ≠ 0) (hclean : s.cleanwin ≠ s.canrestore)
    (hcount : s.canrestore.toNat + 1 < s.params.nwindows) :
    exec (.save rd rs1 op2) s = writeAndAdvance { s with
      cwp := windowPlus s.params s.cwp 1
      cansave := s.cansave - 1
      canrestore := s.canrestore + 1 } rd (s.readReg rs1 + s.operand2 op2) := by
  refine (saveChecks_pass hs hclean).trans ?_
  rw [winregInc_inRange hcount]
  rfl

theorem exec_save_faults (hs : s.cansave ≠ 0) (hclean : s.cleanwin ≠ s.canrestore)
    (hcount : winregInc s.params s.canrestore = none) :
    exec (.save rd rs1 op2) s = .fault .windowRegisterOutOfRange := by
  refine (saveChecks_pass hs hclean).trans ?_
  rw [hcount]

theorem exec_restore_completes (hr : s.canrestore ≠ 0)
    (hcount : s.cansave.toNat + 1 < s.params.nwindows) :
    exec (.restore rd rs1 op2) s = writeAndAdvance { s with
      cwp := windowMinusOne s.params s.cwp
      cansave := s.cansave + 1
      canrestore := s.canrestore - 1 } rd (s.readReg rs1 + s.operand2 op2) := by
  refine (restoreCheck_pass hr).trans ?_
  rw [winregInc_inRange hcount]
  rfl

theorem exec_restore_faults (hr : s.canrestore ≠ 0)
    (hcount : winregInc s.params s.cansave = none) :
    exec (.restore rd rs1 op2) s = .fault .windowRegisterOutOfRange := by
  refine (restoreCheck_pass hr).trans ?_
  rw [hcount]

end

/-- Settles O46: past its window traps SAVE is one register write in the new window. -/
theorem saveOpensAWindow : Obligations.SaveOpensAWindow := by
  unfold Obligations.SaveOpensAWindow
  intro s rd rs1 op2 hs hclean hcount u
  rw [exec_save_completes rd rs1 op2 hs hclean hcount]
  exact writeAndAdvance_completes u rd _

/-- Settles O47: past the fill trap RESTORE is one register write in the restored window, which in a
legal state is the one numbered one less, modulo NWINDOWS. -/
theorem restoreClosesAWindow : Obligations.RestoreClosesAWindow := by
  unfold Obligations.RestoreClosesAWindow
  intro s rd rs1 op2 hlegal hr hcount u
  rw [exec_restore_completes rd rs1 op2 hr hcount, windowMinusOne_eq hlegal.params hlegal.cwp]
  exact writeAndAdvance_completes u rd _

/-! ### SAVED and RESTORED in privileged mode (R314, R316) -/

section
variable {s : State} (hpriv : s.priv = true)
include hpriv

theorem exec_saved_completes (hcount : s.cansave.toNat + 1 < s.params.nwindows)
    (hrest : (if s.otherwin = 0 then s.canrestore else s.otherwin) ≠ 0) :
    exec .saved s = .next (State.advance (if s.otherwin = 0 then
        { s with cansave := s.cansave + 1, canrestore := s.canrestore - 1 }
      else { s with cansave := s.cansave + 1, otherwin := s.otherwin - 1 })) := by
  refine (raiseFirst_inPrivileged hpriv []).trans ?_
  rw [raiseFirst_nil, winregInc_inRange hcount, winregDec_nonzero hrest]
  by_cases ho : s.otherwin = 0
  · simp only [if_pos ho]
  · simp only [if_neg ho]

theorem exec_saved_faults (hcount : winregInc s.params s.cansave = none ∨
      winregDec (if s.otherwin = 0 then s.canrestore else s.otherwin) = none) :
    exec .saved s = .fault .windowRegisterOutOfRange := by
  refine (raiseFirst_inPrivileged hpriv []).trans ?_
  rw [raiseFirst_nil]
  split
  case h_1 hinc hdec =>
    rcases hcount with h | h
    · cases hinc.symm.trans h
    · cases hdec.symm.trans h
  case h_2 => rfl

theorem exec_restored_completes (hcount : s.canrestore.toNat + 1 < s.params.nwindows)
    (hrest : (if s.otherwin = 0 then s.cansave else s.otherwin) ≠ 0) :
    exec .restored s = .next (State.advance (if s.otherwin = 0 then
        { s with
          canrestore := s.canrestore + 1
          cleanwin := s.restoredCleanwin
          cansave := s.cansave - 1 }
      else
        { s with
          canrestore := s.canrestore + 1
          cleanwin := s.restoredCleanwin
          otherwin := s.otherwin - 1 })) := by
  refine (raiseFirst_inPrivileged hpriv []).trans ?_
  rw [raiseFirst_nil, winregInc_inRange hcount, winregDec_nonzero hrest]
  by_cases ho : s.otherwin = 0
  · simp only [if_pos ho]
  · simp only [if_neg ho]

theorem exec_restored_faults (hcount : winregInc s.params s.canrestore = none ∨
      winregDec (if s.otherwin = 0 then s.cansave else s.otherwin) = none) :
    exec .restored s = .fault .windowRegisterOutOfRange := by
  refine (raiseFirst_inPrivileged hpriv []).trans ?_
  rw [raiseFirst_nil]
  split
  case h_1 hinc hdec =>
    rcases hcount with h | h
    · cases hinc.symm.trans h
    · cases hdec.symm.trans h
  case h_2 => rfl

end

/-- Settles O48: OTHERWIN selects the register that is counted down, and in each case the instruction is
its counts and the advance. -/
theorem savedAndRestoredCount : Obligations.SavedAndRestoredCount := by
  unfold Obligations.SavedAndRestoredCount
  intro s hpriv t
  refine ⟨fun hcount ho hr => ?savedNormal, fun hcount ho => ?savedOther, fun hcount =>
    ⟨fun ho hs => ?restoredNormal, fun ho => ?restoredOther⟩⟩
  case savedNormal =>
    rw [exec_saved_completes hpriv hcount (by rwa [if_pos ho]), if_pos ho]
    rfl
  case savedOther =>
    rw [exec_saved_completes hpriv hcount (by rwa [if_neg ho]), if_neg ho]
    rfl
  case restoredNormal =>
    rw [exec_restored_completes hpriv hcount (by rwa [if_pos ho]), if_pos ho]
    rfl
  case restoredOther =>
    rw [exec_restored_completes hpriv hcount (by rwa [if_neg ho]), if_neg ho]
    rfl

/-- Settles O60: each of the four counts one register up, and SAVED and RESTORED one down, and a count
that would leave 0..NWINDOWS-1 has no value. -/
theorem windowCountsOutOfRangeFault : Obligations.WindowCountsOutOfRangeFault := by
  unfold Obligations.WindowCountsOutOfRangeFault
  intro s rd rs1 op2 hp full stops
  refine ⟨fun hs hclean hfull => ?save, fun hr hfull => ?restore, fun hpriv hcount => ?saved,
    fun hpriv hcount => ?restored⟩
  case save => exact exec_save_faults rd rs1 op2 hs hclean (winregInc_full hp hfull)
  case restore => exact exec_restore_faults rd rs1 op2 hr (winregInc_full hp hfull)
  case saved =>
    refine exec_saved_faults hpriv (hcount.imp (winregInc_full hp) ?_)
    rintro ⟨ho, hr⟩
    exact winregDec_zero ((if_pos ho).trans hr)
  case restored =>
    refine exec_restored_faults hpriv (hcount.imp (winregInc_full hp) ?_)
    rintro ⟨ho, hs⟩
    exact winregDec_zero ((if_pos ho).trans hs)

end Sys2Proof.Machine
end

section
/-! SUPPORT. The family 46_register_windows: the window traps (R311 to R313). -/

namespace Sys2Proof.Machine

/-! ### Normal trap entry (R368, R372) -/

/-- Below MAXTL - 1 and outside RED_state an exception that is no reset enters normally. -/
theorem takeTrap_normal {e : Exc} {s : State} (hreset : e.isReset = false) (hred : s.red = false)
    (htl : s.tl.toNat + 1 < s.params.maxtl) : takeTrap e s = normalTrap e (recordFp e s) := by
  unfold takeTrap
  rw [if_neg (by omega), hreset, hred, decide_eq_false (Nat.ne_of_lt htl)]
  rfl

/-- A normal trap entry replaces one level of the trap stack, the one it enters. -/
theorem normalTrap_trapRegs (e : Exc) (s : State) (n : BitVec 3) :
    (normalTrap e s).trapRegs n = if s.tl + 1 = n then trapFrame e s else s.trapRegs n :=
  State.trapRegs_setTrapRegs ..

/-! ### Which exception SAVE and RESTORE raise (R311, R312) -/

section
variable {s : State}

theorem spillExc_normal (ho : s.otherwin = 0) : s.spillExc = .spillNormal s.wstateNormal := if_pos ho

theorem spillExc_other (ho : s.otherwin ≠ 0) : s.spillExc = .spillOther s.wstateOther := if_neg ho

theorem fillExc_normal (ho : s.otherwin = 0) : s.fillExc = .fillNormal s.wstateNormal := if_pos ho

theorem fillExc_other (ho : s.otherwin ≠ 0) : s.fillExc = .fillOther s.wstateOther := if_neg ho

variable (rd rs1 : Reg) (op2 : Operand2)

theorem exec_save_spills (hs : s.cansave = 0) :
    exec (.save rd rs1 op2) s = raise s.spillExc s := if_pos (decide_eq_true hs)

theorem exec_save_cleans (hs : s.cansave ≠ 0) (hclean : s.cleanwin = s.canrestore) :
    exec (.save rd rs1 op2) s = raise .cleanWindow s := by
  have hdirty : s.cleanwin - s.canrestore = 0 := sub_eq_zero.2 hclean
  refine (raiseFirst_cons ..).trans ?_
  rw [decide_eq_false hs, if_neg Bool.false_ne_true, raiseFirst_cons, if_pos (decide_eq_true hdirty)]

theorem exec_restore_fills (hr : s.canrestore = 0) :
    exec (.restore rd rs1 op2) s = raise s.fillExc s := if_pos (decide_eq_true hr)

end

/-- Settles O49: every window trap is a normal trap entry that moves CWP by a number of windows, and
R313's table gives the number and the trap type. -/
theorem windowTraps : Obligations.WindowTraps := by
  unfold Obligations.WindowTraps
  intro s rd rs1 op2 hlegal hred htl traps normal other
  have hp := hlegal.params
  have enters {i : Instr} {e : Exc} {n : Nat} (hexec : exec i s = raise e s)
      (hreset : e.isReset = false) (hfp : recordFp e s = s)
      (hcwp : trapCwp e s = windowPlus s.params s.cwp n) : traps i e.tt (s.cwp.toNat + n) := by
    have htrap : takeTrap e s = normalTrap e s := by rw [takeTrap_normal hreset hred htl, hfp]
    have hsaved : (normalTrap e s).trapRegs (s.tl + 1) = trapFrame e s :=
      (normalTrap_trapRegs ..).trans (if_pos rfl)
    refine ⟨normalTrap e s, by rw [hexec, raise, htrap], ?cwp, rfl, ?tt, ?saved, rfl, rfl, rfl, rfl,
      rfl, rfl, rfl, rfl, rfl⟩
    case cwp => exact (congrArg BitVec.toNat hcwp).trans (windowPlus_toNat hp _ _)
    case tt => exact congrArg TrapRegs.tt hsaved
    case saved =>
      exact (congrArg (fun r => tstateCwp r.tstate) hsaved).trans (tstateCwp_packTstate ..)
  have hlast : s.cwp.toNat + s.params.nwindows - 1 = s.cwp.toNat + (s.params.nwindows - 1) := by
    have hlow := hp.1
    omega
  rw [hlast, Nat.add_assoc s.cwp.toNat]
  refine ⟨fun hs ho => ?spillNormal, fun hs ho => ?spillOther, fun hs hclean => ?clean,
    fun hr ho => ?fillNormal, fun hr ho => ?fillOther⟩
  case spillNormal =>
    exact enters (spillExc_normal ho ▸ exec_save_spills rd rs1 op2 hs) rfl rfl rfl
  case spillOther =>
    exact enters (spillExc_other ho ▸ exec_save_spills rd rs1 op2 hs) rfl rfl rfl
  case clean => exact enters (exec_save_cleans rd rs1 op2 hs hclean) rfl rfl rfl
  case fillNormal =>
    exact enters (fillExc_normal ho ▸ exec_restore_fills rd rs1 op2 hr) rfl rfl rfl
  case fillOther =>
    exact enters (fillExc_other ho ▸ exec_restore_fills rd rs1 op2 hr) rfl rfl rfl

end Sys2Proof.Machine
end

section
/-! SUPPORT. The family 46_register_windows: the sum of the window registers (R318; 10_state.md
R46). -/

namespace Sys2Proof.Machine

open Sys2Proof.Config

/-! ### The sum -/

/-- CANSAVE + CANRESTORE + OTHERWIN: NWINDOWS - 2 in a consistent state (10_state.md R46). -/
def State.windowSum (s : State) : Nat :=
  s.cansave.toNat + s.canrestore.toNat + s.otherwin.toNat

/-- An update that leaves the three registers leaves the sum. -/
theorem State.windowSum_congr {s t : State} (hs : t.cansave = s.cansave)
    (hr : t.canrestore = s.canrestore) (ho : t.otherwin = s.otherwin) :
    t.windowSum = s.windowSum := by
  unfold State.windowSum
  rw [hs, hr, ho]

theorem State.advance_windowSum (s : State) : s.advance.windowSum = s.windowSum := rfl

theorem State.writeReg_windowSum (s : State) (r : Reg) (v : Word) :
    (s.writeReg r v).windowSum = s.windowSum := windowSum_congr (by simp) (by simp) (by simp)

/-- A trap adjusts CWP and none of the other window registers (R313). -/
theorem takeTrap_windowSum (e : Exc) (s : State) : (takeTrap e s).windowSum = s.windowSum := by
  unfold takeTrap
  split
  · rfl
  · split <;> exact State.windowSum_congr (by simp) (by simp) (by simp)

theorem compareAndSwap_windowSum (s : State) (k : BitVec 8) (a : Word) (n : Nat) (rs2 rd : Reg) :
    (compareAndSwap s k a n rs2 rd).windowSum = s.windowSum := by
  refine (State.writeReg_windowSum ..).trans ?_
  split <;> rfl

/-! ### Every instruction -/

theorem withWinreg_windowSum {s t : State} {v : Word} {f : BitVec 5 → State}
    (h : withWinreg s v f = .next t) (hf : ∀ x, (f x).windowSum = s.windowSum) :
    t.windowSum = s.windowSum := by
  unfold withWinreg at h
  split at h
  · cases h
  · rw [next_inj h]
    exact hf _

/-- Of the privileged registers only 10, 11 and 13 are in the sum (R297). -/
theorem writePriv_windowSum {s t : State} {n : Reg} {v : Word} (h : s.writePriv n v = .next t)
    (hn : n ≠ 10 ∧ n ≠ 11 ∧ n ≠ 13) : t.windowSum = s.windowSum := by
  obtain ⟨h10, h11, h13⟩ := hn
  unfold State.writePriv at h
  split at h
  case h_3 => rw [next_inj (withReserved_next _ _ _ _ h).2]; rfl
  case h_7 | h_8 =>
    split at h
    · cases h
    · rw [next_inj h]; rfl
  case h_11 hn => exact absurd (BitVec.eq_of_toNat_eq hn) h10
  case h_12 hn => exact absurd (BitVec.eq_of_toNat_eq hn) h11
  case h_14 hn => exact absurd (BitVec.eq_of_toNat_eq hn) h13
  case h_10 | h_13 => exact withWinreg_windowSum h fun _ => rfl
  case h_16 => rw [next_inj h]; exact takeTrap_windowSum ..
  all_goals rw [next_inj h]; rfl

/-- The window instructions count one of the three registers up and one down; no other instruction
counts them. -/
theorem effect_windowSum {i : Instr} {s t : State} (hp : s.params.wf) (h : Effect i s t)
    (hi : ∀ rs1 op2, i ≠ .wrpr 10 rs1 op2 ∧ i ≠ .wrpr 11 rs1 op2 ∧ i ≠ .wrpr 13 rs1 op2) :
    t.windowSum = s.windowSum := by
  cases h
  case save _ _ hdown hup | restore _ _ hdown hup =>
    refine (State.writeReg_windowSum ..).trans ?_
    have hup := toNat_winreg_succ hp hup
    have hdown := toNat_winreg_pred hdown
    simp only [State.windowSum]
    omega
  case savedNormal _ hup hdown | savedOther _ hup hdown | restoredNormal _ hup hdown |
      restoredOther _ hup hdown =>
    have hup := toNat_winreg_succ hp hup
    have hdown := toNat_winreg_pred hdown
    refine (State.advance_windowSum _).trans ?_
    simp only [State.windowSum]
    omega
  case trap e => exact takeTrap_windowSum e s
  case cas k a n rs2 rd _ _ _ _ => exact compareAndSwap_windowSum s k a n rs2 rd
  case swap => exact State.writeReg_windowSum ..
  case wrpr n rs1 op2 hwrpr _ _ hw =>
    obtain ⟨h10, h11, h13⟩ := hi rs1 op2
    refine writePriv_windowSum hw ⟨?_, ?_, ?_⟩ <;> rintro rfl <;> contradiction
  all_goals exact State.windowSum_congr (by simp) (by simp) (by simp)

/-- Settles O50: every next state of an instruction is one of its effects, and each keeps the sum. -/
theorem windowSumIsKept : Obligations.WindowSumIsKept := by
  unfold Obligations.WindowSumIsKept
  intro i s t hlegal h hi
  exact effect_windowSum hlegal.params (exec_effect i s t h) hi

end Sys2Proof.Machine
end

section
/-! SUPPORT. The family 47_stores: the stores of one register (R330 to R343), and what a load finds
where a store has been (R340; 20_memory.md R85, R87, R88). -/

namespace Sys2Proof.Machine

/-! ### The stores of one register (R333 to R336, R341 to R343) -/

section
variable {s : State} {n : Nat} {rd rs1 : Reg}

theorem State.storeValue_advance (s : State) (k : BitVec 8) (a : Word) (n v : Nat) :
    (s.storeValue k a n v).advance = s.nextWithMem (s.storeValue k a n v).mem := rfl

theorem memWritten_storeValue (s : State) (k : BitVec 8) (a : Word) (n v : Nat) :
    MemWritten s.mem (s.storeValue k a n v).mem a.toNat (valueBytes (littleAsi k) n v) :=
  memWritten_writeBytes ..

/-- STB, STH, STW and STX, for every width. -/
theorem storeN_completes {op2 : Operand2} (hstorable : s.storable (s.effAddr rs1 op2) n) :
    ∃ m, storeN n rd rs1 op2 s = .next (s.nextWithMem m) ∧
      MemWritten s.mem m (s.effAddr rs1 op2).toNat
        (valueBytes (littleAsi s.implicitAsi) n (s.readReg rd).toNat) := by
  obtain ⟨ha, hmem, htext⟩ := hstorable
  refine ⟨_, ?_, memWritten_storeValue s _ _ n _⟩
  rw [← State.storeValue_advance]
  exact (storeN_checked ha).trans (withStore_pass hmem htext)

/-- STBA, STHA, STWA and STXA, for every width. -/
theorem storeAltN_completes {alt : AltOperand} (hstorable : s.storable (s.altAddr rs1 alt) n)
    (husable : s.asiUsable (s.altAsi alt)) (hasi : nofaultAsi (s.altAsi alt) = false) :
    ∃ m, storeAltN n rd rs1 alt s = .next (s.nextWithMem m) ∧
      MemWritten s.mem m (s.altAddr rs1 alt).toNat
        (valueBytes (littleAsi (s.altAsi alt)) n (s.readReg rd).toNat) := by
  obtain ⟨ha, hmem, htext⟩ := hstorable
  refine ⟨_, ?_, memWritten_storeValue s _ _ n _⟩
  rw [← State.storeValue_advance]
  exact (storeAltN_checked ha husable hasi).trans (withStore_pass hmem htext)

end

/-- Settles O31: each of the four is the store of its width. -/
theorem plainStores : Obligations.PlainStores := by
  unfold Obligations.PlainStores
  intro s rd rs1 op2 a stores
  exact ⟨storeN_completes, storeN_completes, storeN_completes, storeN_completes⟩

/-- Settles O32: each of the four is the store of its width, in the byte order of the named ASI. -/
theorem alternateStores : Obligations.AlternateStores := by
  unfold Obligations.AlternateStores
  intro s rd rs1 alt a k stores
  exact ⟨storeAltN_completes, storeAltN_completes, storeAltN_completes, storeAltN_completes⟩

/-! ### Byte order across widths (20_memory.md R85) -/

theorem beBytes_add (n k v : Nat) : beBytes (n + k) v = beBytes n (v / 256 ^ k) ++ beBytes k v := by
  unfold beBytes
  rw [Nat.add_comm, leBytes_add, List.reverse_append]

/-- The bytes of a value read in the other byte order are its bytes reversed. -/
theorem bytesValue_valueBytes_other {little little' : Bool} (h : little ≠ little') (n v : Nat) :
    bytesValue little' (valueBytes little n v) = leValue (beBytes n (v % 256 ^ n)) := by
  have hmod : beBytes n (v % 256 ^ n) = beBytes n v := valueBytes_mod false n v
  rw [hmod]
  cases little <;> cases little'
  case false.true | true.false => rfl
  all_goals contradiction

/-- Two values' bytes read as one value: in little-endian order the second is above the first. -/
theorem leValue_leBytes_append (n v w : Nat) :
    leValue (leBytes n v ++ leBytes n w) = w % 256 ^ n * 256 ^ n + v % 256 ^ n := by
  rw [leValue_append, length_leBytes, leValue_leBytes, leValue_leBytes, Nat.add_comm, Nat.mul_comm]

/-- In big-endian order the first is above the second. -/
theorem beValue_beBytes_append (n v w : Nat) :
    beValue (beBytes n v ++ beBytes n w) = v % 256 ^ n * 256 ^ n + w % 256 ^ n := by
  unfold beValue beBytes
  rw [List.reverse_append, List.reverse_reverse, List.reverse_reverse, leValue_leBytes_append]

/-! ### What a load finds where a store has been (R340) -/

theorem readBytes_of_memWritten {m m' : Memory} {a : Nat} {bs : List Byte}
    (h : MemWritten m m' a bs) : readBytes m' a bs.length = bs := by
  obtain ⟨hwritten, -⟩ := h
  induction bs generalizing a with
  | nil => rfl
  | cons b bs ih =>
    have hhead : readByte m' a = b := hwritten 0 b rfl
    have htail : readBytes m' (a + 1) bs.length = bs :=
      ih fun i c hc => by
        rw [Nat.add_assoc, Nat.add_comm 1]
        exact hwritten (i + 1) c hc
    rw [List.length_cons, readBytes, hhead, htail]

/-- A doubleword written as two words, read as words and as a doubleword. -/
theorem valueAt_of_memWritten {m : Memory} {t : State} {a : Word} {bs cs : List Byte}
    (k : BitVec 8) (ha : a.toNat % 8 = 0) (h : MemWritten m t.mem a.toNat (bs ++ cs))
    (hbs : bs.length = 4) (hcs : cs.length = 4) :
    t.valueAt k a 4 = bytesValue (littleAsi k) bs ∧
      t.valueAt k (a + 4) 4 = bytesValue (littleAsi k) cs ∧
      t.valueAt k a 8 = bytesValue (littleAsi k) (bs ++ cs) := by
  have hread := readBytes_of_memWritten h
  rw [List.length_append, hbs, hcs] at hread
  have hwords := hread
  rw [readBytes_append] at hwords
  obtain ⟨hfirst, hsecond⟩ := List.append_inj hwords (by rw [length_readBytes, hbs])
  simp only [State.valueAt, toNat_add_four ha]
  exact ⟨congrArg _ hfirst, congrArg _ hsecond, congrArg _ hread⟩

section
variable (s : State) (k k' : BitVec 8) {a : Word}

/-- What is read after a pair store: its words by themselves and together (R340). -/
theorem valueAt_storePair (x y : Word) (ha : a.toNat % 8 = 0) :
    (s.storePair k a x y).valueAt k' a 4
        = bytesValue (littleAsi k') (valueBytes (littleAsi k) 4 x.toNat) ∧
      (s.storePair k a x y).valueAt k' (a + 4) 4
        = bytesValue (littleAsi k') (valueBytes (littleAsi k) 4 y.toNat) ∧
      (s.storePair k a x y).valueAt k' a 8
        = bytesValue (littleAsi k')
          (valueBytes (littleAsi k) 4 x.toNat ++ valueBytes (littleAsi k) 4 y.toNat) :=
  valueAt_of_memWritten k' ha (memWritten_storePair s k x y ha) (length_valueBytes ..)
    (length_valueBytes ..)

/-- What is read after a doubleword store whose bytes are those of two words, in the order of the
store. -/
theorem valueAt_storeValue_words (ha : a.toNat % 8 = 0) (hsame : littleAsi k = littleAsi k')
    {v p q : Nat} (hbytes : valueBytes (littleAsi k) 8 v
      = valueBytes (littleAsi k) 4 p ++ valueBytes (littleAsi k) 4 q) :
    (s.storeValue k a 8 v).valueAt k' a 4 = p % 2 ^ 32 ∧
      (s.storeValue k a 8 v).valueAt k' (a + 4) 4 = q % 2 ^ 32 := by
  have hwritten := memWritten_storeValue s k a 8 v
  rw [hbytes] at hwritten
  obtain ⟨hfirst, hsecond, -⟩ := valueAt_of_memWritten k' ha hwritten (length_valueBytes ..)
    (length_valueBytes ..)
  rw [hfirst, hsecond, hsame, bytesValue_valueBytes, bytesValue_valueBytes]
  exact ⟨rfl, rfl⟩

end

/-- The upper half of a doubleword is a word. -/
theorem toNat_div_mod_word (x : Word) : x.toNat / 2 ^ 32 % 2 ^ 32 = x.toNat / 2 ^ 32 :=
  Nat.mod_eq_of_lt (Nat.div_lt_of_lt_mul x.isLt)

/-- Settles O37: a load finds the bytes the store has written; those of a doubleword are those of
its halves, and those of a pair give its words put together. -/
theorem storeThenLoad : Obligations.StoreThenLoad := by
  unfold Obligations.StoreThenLoad
  intro s k k' a x y ha e o swap4 t u
  obtain ⟨heven, hodd, hboth⟩ := valueAt_storePair s k k' x y ha
  refine ⟨fun hsame => ?same, fun hother => ?other, fun hk hk' => ?pairLittle,
    fun hk hk' => ?pairBig, fun hk hk' => ?halvesLittle, fun hk hk' => ?halvesBig⟩
  case same =>
    rw [hsame, bytesValue_valueBytes] at heven hodd
    exact ⟨heven, hodd⟩
  case other =>
    rw [bytesValue_valueBytes_other hother] at heven hodd
    exact ⟨heven, hodd⟩
  case pairLittle =>
    rw [hk, hk'] at hboth
    exact hboth.trans (leValue_leBytes_append 4 x.toNat y.toNat)
  case pairBig =>
    rw [hk, hk'] at hboth
    exact hboth.trans (beValue_beBytes_append 4 x.toNat y.toNat)
  case halvesLittle =>
    rw [← toNat_div_mod_word x]
    refine valueAt_storeValue_words s k k' ha (hk.trans hk'.symm) ?_
    rw [hk]
    exact leBytes_add 4 4 x.toNat
  case halvesBig =>
    rw [← toNat_div_mod_word x]
    refine valueAt_storeValue_words s k k' ha (hk.trans hk'.symm) ?_
    rw [hk]
    exact beBytes_add 4 4 x.toNat

end Sys2Proof.Machine
end

section
/-! SUPPORT. The family 48_tagged_add: the condition codes of an addition against the sums of integers,
and the tagged adds (R351 to R353). -/

namespace Sys2Proof.Machine

/-! ### CCR as its eight bits (R27) -/

@[simp] theorem ccrXcc_packCcr (xcc icc : Nzvc) : ccrXcc (packCcr xcc icc) = xcc := by
  obtain ⟨n, z, v, c⟩ := xcc
  obtain ⟨n', z', v', c'⟩ := icc
  revert n z v c n' z' v' c'
  decide

@[simp] theorem ccrIcc_packCcr (xcc icc : Nzvc) : ccrIcc (packCcr xcc icc) = icc := by
  obtain ⟨n, z, v, c⟩ := xcc
  obtain ⟨n', z', v', c'⟩ := icc
  revert n z v c n' z' v' c'
  decide

/-! ### Overflow and carry of an addition of any width (R351) -/

/-- Signed overflow: the sum of the integers is not the integer of the sum. -/
theorem saddOverflow_iff {w : Nat} (x y : BitVec w) :
    x.saddOverflow y = true ↔ x.toInt + y.toInt ≠ (x + y).toInt := by
  constructor
  · intro hov heq
    have hlow := (x + y).le_toInt
    have hhigh := (x + y).toInt_lt
    rw [← heq] at hlow hhigh
    simp only [BitVec.saddOverflow, Bool.or_eq_true, decide_eq_true_eq] at hov
    omega
  · intro hne
    by_contra hno
    exact hne (BitVec.toInt_add_of_not_saddOverflow hno).symm

/-- The carry out of the last bit: the sum of the numbers needs one bit more. -/
theorem carryOut_iff {k : Nat} (x y : BitVec (k + 1)) :
    (x.msb && y.msb || !(x + y).msb && (x.msb || y.msb)) = true ↔
      2 ^ (k + 1) ≤ x.toNat + y.toNat := by
  have hx := x.isLt
  have hy := y.isLt
  have hpow : 2 ^ (k + 1) = 2 * 2 ^ k := Nat.pow_succ'
  have hsum : (x + y).toNat =
      if x.toNat + y.toNat < 2 ^ (k + 1) then x.toNat + y.toNat
      else x.toNat + y.toNat - 2 ^ (k + 1) := by
    rw [BitVec.toNat_add]
    split
    · exact Nat.mod_eq_of_lt ‹_›
    · rw [Nat.mod_eq_sub_mod (by omega), Nat.mod_eq_of_lt (by omega)]
  simp only [BitVec.msb_eq_decide, Nat.add_sub_cancel, Bool.or_eq_true, Bool.and_eq_true,
    Bool.not_eq_true', decide_eq_true_eq, decide_eq_false_iff_not]
  split at hsum <;> omega

/-! ### The flags of the model at 32 and at 64 bits (R351) -/

section
variable {k : Nat} (a b : Word)

/-- A bit of a word is the sign of the bits up to it. -/
theorem getLsbD_eq_msb_low : a.getLsbD k = (a.extractLsb' 0 (k + 1)).msb := by
  rw [BitVec.msb_eq_getLsbD_last, BitVec.getLsbD_extractLsb', Nat.add_sub_cancel, Nat.zero_add,
    decide_eq_true (Nat.lt_succ_self k), Bool.true_and]

theorem low_add (hk : k < 64) :
    (a + b).extractLsb' 0 (k + 1) = a.extractLsb' 0 (k + 1) + b.extractLsb' 0 (k + 1) :=
  BitVec.extractLsb'_add hk

theorem addOverflow_iff (hk : k < 64) :
    addOverflow k a b (a + b) = true ↔
      (a.extractLsb' 0 (k + 1)).toInt + (b.extractLsb' 0 (k + 1)).toInt ≠
        (a.extractLsb' 0 (k + 1) + b.extractLsb' 0 (k + 1)).toInt := by
  rw [← saddOverflow_iff, BitVec.saddOverflow_eq, ← low_add a b hk, addOverflow]
  simp only [getLsbD_eq_msb_low]
  rfl

theorem addCarry_iff (hk : k < 64) :
    addCarry k a b (a + b) = true ↔
      2 ^ (k + 1) ≤ (a.extractLsb' 0 (k + 1)).toNat + (b.extractLsb' 0 (k + 1)).toNat := by
  rw [← carryOut_iff, ← low_add a b hk, addCarry]
  simp only [getLsbD_eq_msb_low]

/-- The tag overflow: a nonzero tag or signed 32-bit overflow. -/
theorem tagOverflow_iff :
    tagOverflow a b = true ↔ a.extractLsb' 0 2 ≠ 0 ∨ b.extractLsb' 0 2 ≠ 0 ∨
      (a.extractLsb' 0 32).toInt + (b.extractLsb' 0 32).toInt ≠
        (a.extractLsb' 0 32 + b.extractLsb' 0 32).toInt := by
  rw [tagOverflow, Bool.or_eq_true, Bool.or_eq_true, decide_eq_true_eq, decide_eq_true_eq,
    addOverflow_iff a b (by decide), or_assoc]

/-- The four codes of the 64-bit sum. -/
theorem addXcc_flags :
    (addXcc a b).n = (a + b).msb ∧ ((addXcc a b).z = true ↔ a + b = 0) ∧
      ((addXcc a b).v = true ↔ a.toInt + b.toInt ≠ (a + b).toInt) ∧
      ((addXcc a b).c = true ↔ 2 ^ 64 ≤ a.toNat + b.toNat) := by
  refine ⟨(BitVec.msb_eq_getLsbD_last _).symm, decide_eq_true_iff, ?v, ?c⟩
  case v =>
    have h := addOverflow_iff (k := 63) a b (by decide)
    rwa [BitVec.extractLsb'_eq_self, BitVec.extractLsb'_eq_self] at h
  case c =>
    have h := addCarry_iff (k := 63) a b (by decide)
    rwa [BitVec.extractLsb'_eq_self, BitVec.extractLsb'_eq_self] at h

/-- N, Z and C of the 32-bit sum; V is the one given. -/
theorem taggedIcc_flags (v : Bool) :
    (taggedIcc a b v).n = (a.extractLsb' 0 32 + b.extractLsb' 0 32).msb ∧
      ((taggedIcc a b v).z = true ↔ a.extractLsb' 0 32 + b.extractLsb' 0 32 = 0) ∧
      (taggedIcc a b v).v = v ∧
      ((taggedIcc a b v).c = true ↔
        2 ^ 32 ≤ (a.extractLsb' 0 32).toNat + (b.extractLsb' 0 32).toNat) := by
  have hsum : (a + b).extractLsb' 0 32 = a.extractLsb' 0 32 + b.extractLsb' 0 32 :=
    low_add a b (by decide)
  rw [← hsum]
  exact ⟨getLsbD_eq_msb_low _, decide_eq_true_iff, rfl, addCarry_iff a b (by decide)⟩

end

/-! ### TADDcc and TADDccTV (R352, R353) -/

section
variable (s : State) (rd rs1 : Reg) (op2 : Operand2)

theorem exec_taddcctv_traps (h : tagOverflow (s.readReg rs1) (s.operand2 op2) = true) :
    exec (.taddcctv rd rs1 op2) s = .next (takeTrap .tagOverflow s) := if_pos h

theorem exec_taddcctv_completes (h : tagOverflow (s.readReg rs1) (s.operand2 op2) = false) :
    exec (.taddcctv rd rs1 op2) s =
      .next (taggedAdd s rd (s.readReg rs1) (s.operand2 op2) false).advance :=
  if_neg (Bool.eq_false_iff.1 h)

/-- A tagged add writes one register once CCR is set. -/
theorem taggedAdd_wrote (a b : Word) (v : Bool) :
    WroteInts { s with ccr := packCcr (addXcc a b) (taggedIcc a b v) }
      (taggedAdd s rd a b v).advance [(s.cellOf rd, a + b)] :=
  wroteInts_writeReg { s with ccr := packCcr (addXcc a b) (taggedIcc a b v) } rd (a + b)

end

/-- Settles O51: both are one tagged add, with icc.V the tag overflow, which TADDccTV rules out by its
trap. -/
theorem taggedAdds : Obligations.TaggedAdds := by
  unfold Obligations.TaggedAdds
  intro s rd rs1 op2 a b a32 b32 tagOv sums
  have hov : tagOverflow a b = true ↔ tagOv := tagOverflow_iff a b
  have completes {i : Instr} {v : Bool} (hv : v = true ↔ tagOv)
      (hexec : exec i s = .next (taggedAdd s rd a b v).advance) : sums i := by
    obtain ⟨hn, hz, hxv, hc⟩ := addXcc_flags a b
    obtain ⟨hn32, hz32, hv32, hc32⟩ := taggedIcc_flags a b v
    rw [← ccrXcc_packCcr (addXcc a b) (taggedIcc a b v)] at hn hz hxv hc
    rw [← ccrIcc_packCcr (addXcc a b) (taggedIcc a b v)] at hn32 hz32 hv32 hc32
    exact ⟨_, packCcr (addXcc a b) (taggedIcc a b v), hexec, taggedAdd_wrote s rd a b v, hn, hz, hxv,
      hc, hn32, hz32, (Bool.eq_iff_iff.1 hv32).trans hv, hc32⟩
  refine ⟨completes hov rfl, fun hno => ?adds, fun h => ?traps⟩
  case adds =>
    have hfalse : tagOverflow a b = false := Bool.eq_false_iff.2 (mt hov.1 hno)
    exact completes (iff_of_false Bool.false_ne_true hno)
      (exec_taddcctv_completes s rd rs1 op2 hfalse)
  case traps => exact exec_taddcctv_traps s rd rs1 op2 (hov.2 h)

end Sys2Proof.Machine
end

section
/-! SUPPORT. The family 60_exceptions: nonprivileged code enters privileged mode only by a trap (R383,
R384). -/

namespace Sys2Proof.Machine

/-! ### The registers that only privileged code may change -/

/-- What an instruction in nonprivileged mode leaves: the registers that are written in privileged mode
only, TICK.NPT, the SIR_enable flag and error_state. -/
structure PrivilegedPart where
  pstate : BitVec 12
  tl : BitVec 3
  trapStack : Vector TrapRegs 8
  tba : Word
  pil : BitVec 4
  wstate : BitVec 6
  cleanwin : BitVec 5
  otherwin : BitVec 5
  npt : Bool
  sirEnable : Bool
  errorState : Bool

/-- The privileged part of a state. -/
def State.privilegedPart (s : State) : PrivilegedPart where
  pstate := s.pstate
  tl := s.tl
  trapStack := s.trapStack
  tba := s.tba
  pil := s.pil
  wstate := s.wstate
  cleanwin := s.cleanwin
  otherwin := s.otherwin
  npt := s.npt
  sirEnable := s.sirEnable
  errorState := s.errorState

/-- States with the same privileged part agree in each of its fields. -/
theorem State.privilegedPart_eq_iff (s t : State) :
    t.privilegedPart = s.privilegedPart ↔
      t.pstate = s.pstate ∧ t.tl = s.tl ∧ t.trapStack = s.trapStack ∧ t.tba = s.tba ∧
        t.pil = s.pil ∧ t.wstate = s.wstate ∧ t.cleanwin = s.cleanwin ∧ t.otherwin = s.otherwin ∧
        t.npt = s.npt ∧ t.sirEnable = s.sirEnable ∧ t.errorState = s.errorState := by
  simp only [State.privilegedPart, PrivilegedPart.mk.injEq]

theorem State.advance_privilegedPart (s : State) :
    s.advance.privilegedPart = s.privilegedPart := rfl

theorem State.writeReg_privilegedPart (s : State) (r : Reg) (v : Word) :
    (s.writeReg r v).privilegedPart = s.privilegedPart := by
  rw [State.writeReg_frame]
  rfl

theorem State.copyF_privilegedPart (s : State) (size : FpSize) (rd rs2 : Reg) :
    (s.copyF size rd rs2).privilegedPart = s.privilegedPart := by
  rw [State.copyF_frame]
  rfl

theorem State.loadPair_privilegedPart (s : State) (k : BitVec 8) (a : Word) (rd : Reg) :
    (s.loadPair k a rd).privilegedPart = s.privilegedPart := by
  rw [State.loadPair_frame]
  rfl

/-- A read of TICK moves the counter and leaves NPT (R428). -/
theorem State.drawTick_privilegedPart (s : State) :
    s.drawTick.privilegedPart = s.privilegedPart :=
  (s.privilegedPart_eq_iff s.drawTick).2
    ⟨rfl, rfl, rfl, rfl, rfl, rfl, rfl, rfl, drawTick_npt s, rfl, rfl⟩

theorem compareAndSwap_privilegedPart (s : State) (k : BitVec 8) (a : Word) (n : Nat)
    (rs2 rd : Reg) : (compareAndSwap s k a n rs2 rd).privilegedPart = s.privilegedPart := by
  refine (State.writeReg_privilegedPart ..).trans ?_
  split <;> rfl

/-! ### Every instruction, and every step -/

/-- In nonprivileged mode every effect but a trap leaves the privileged part: WRPR, SAVED and RESTORED,
which change it, check the mode. -/
theorem effect_nonprivileged {i : Instr} {s t : State} (hpriv : s.priv = false)
    (h : Effect i s t) :
    (∃ e, t = takeTrap e s) ∨ t.privilegedPart = s.privilegedPart := by
  have hnot : s.priv ≠ true := Bool.eq_false_iff.1 hpriv
  cases h
  case trap e => exact .inl ⟨e, rfl⟩
  case wrpr hp _ _ | savedNormal hp _ _ | savedOther hp _ _ | restoredNormal hp _ _ |
      restoredOther hp _ _ => exact absurd hp hnot
  case cas k a n rs2 rd _ _ _ _ => exact .inr (compareAndSwap_privilegedPart s k a n rs2 rd)
  case fmove size rd rs2 => exact .inr (State.copyF_privilegedPart s.clearCexcFtt size rd rs2)
  case loadPair k a rd => exact .inr (State.loadPair_privilegedPart s k a rd)
  case tick rd =>
    exact .inr ((State.writeReg_privilegedPart ..).trans s.drawTick_privilegedPart)
  case swap | int | save | restore | tadd => exact .inr (State.writeReg_privilegedPart ..)
  all_goals exact .inr (by simp [State.privilegedPart, State.npt])

/-- Settles O10: a step is a trap or an instruction, and the effects of an instruction that change the
privileged part need privileged mode. -/
theorem onlyATrapEntersPrivilegedMode : Obligations.OnlyATrapEntersPrivilegedMode := by
  unfold Obligations.OnlyATrapEntersPrivilegedMode
  intro s t hpriv h
  rw [← State.privilegedPart_eq_iff]
  obtain ⟨-, htrap | ⟨i, -, hexec⟩⟩ := step_next s t h
  · exact .inl htrap
  · exact effect_nonprivileged hpriv (exec_effect i s t hexec)

end Sys2Proof.Machine
end

section
/-! SUPPORT. The family 60_exceptions: what a trap entry saves and sets, in any mode and in RED_state
(R313, R372 to R374, R420 to R422). -/

namespace Sys2Proof.Machine

open Sys2Proof.Config

/-! ### The two entries below MAXTL (R372, R374) -/

section
variable {e : Exc} {s : State}

/-- What is recorded before the entry is in FSR, and only the floating-point exceptions record (R382). -/
theorem recordFp_fsr_of_tt (h21 : e.tt ≠ 0x021) (h22 : e.tt ≠ 0x022) :
    (recordFp e s).fsr = s.fsr := by
  unfold recordFp
  split
  · exact absurd rfl h21
  · exact absurd rfl h22
  · rfl

/-- Below MAXTL - 1 and outside RED_state an exception that is no reset is a normal entry from a state
that differs in FSR only. -/
theorem takeTrap_eq_normalTrap (hreset : e.isReset = false) (hred : s.red = false)
    (htl : s.tl.toNat + 1 < s.params.maxtl) :
    takeTrap e s = normalTrap e { s with fsr := (recordFp e s).fsr } :=
  (takeTrap_normal hreset hred htl).trans (congrArg (normalTrap e) (recordFp_frame s e))

/-- A trap below MAXTL enters RED_state where it is a reset, in RED_state or at MAXTL - 1. -/
theorem takeTrap_eq_redTrap (htl : s.tl.toNat < s.params.maxtl)
    (h : e.isReset = true ∨ s.red = true ∨ s.tl.toNat + 1 = s.params.maxtl) :
    takeTrap e s = redTrap e { s with fsr := (recordFp e s).fsr } := by
  have hcond : (e.isReset || s.red || decide (s.tl.toNat + 1 = s.params.maxtl)) = true := by
    simpa [or_assoc] using h
  refine Eq.trans ?_ (congrArg (redTrap e) (recordFp_frame s e))
  unfold takeTrap
  rw [if_neg (Nat.not_le.2 htl), if_pos hcond]

/-- Below MAXTL a trap is one of the two entries. -/
theorem takeTrap_entry (htl : s.tl.toNat < s.params.maxtl) :
    takeTrap e s = normalTrap e { s with fsr := (recordFp e s).fsr } ∨
      takeTrap e s = redTrap e { s with fsr := (recordFp e s).fsr } := by
  by_cases h : e.isReset = true ∨ s.red = true ∨ s.tl.toNat + 1 = s.params.maxtl
  case pos => exact .inr (takeTrap_eq_redTrap htl h)
  case neg =>
    obtain ⟨hreset, hred, hlast⟩ : e.isReset ≠ true ∧ s.red ≠ true ∧
        s.tl.toNat + 1 ≠ s.params.maxtl := by simpa only [not_or] using h
    exact .inl (takeTrap_eq_normalTrap (Bool.eq_false_iff.2 hreset) (Bool.eq_false_iff.2 hred)
      (by omega))

/-- Both entries move CWP as R313 says. -/
theorem takeTrap_cwp_below (htl : s.tl.toNat < s.params.maxtl) :
    (takeTrap e s).cwp = trapCwp e s := by
  rcases takeTrap_entry htl with h | h <;> rw [h] <;> rfl

/-- Both entries save the interrupted state at the level they enter, and keep the other levels. -/
theorem takeTrap_trapRegs_below (htl : s.tl.toNat < s.params.maxtl) (n : BitVec 3) :
    (takeTrap e s).trapRegs n = if (takeTrap e s).tl = n then trapFrame e s else s.trapRegs n := by
  rcases takeTrap_entry htl with h | h <;> rw [h]
  · exact normalTrap_trapRegs ..
  · exact redTrap_trapRegs ..

theorem takeTrap_saved (htl : s.tl.toNat < s.params.maxtl) :
    (takeTrap e s).trapRegs (takeTrap e s).tl = trapFrame e s :=
  (takeTrap_trapRegs_below htl _).trans (if_pos rfl)

theorem takeTrap_otherLevels (htl : s.tl.toNat < s.params.maxtl) {n : BitVec 3}
    (hn : n ≠ s.tl + 1) : (takeTrap e s).trapRegs n = s.trapRegs n := by
  obtain ⟨hlevel, -⟩ := takeTrap_below e s htl
  exact (takeTrap_trapRegs_below htl n).trans (if_neg fun h => hn (h.symm.trans hlevel))

/-- Of a legal state the saved TSTATE holds CCR, ASI, PSTATE and CWP whole (R40, R41). -/
theorem trapFrame_tstate_of_legal (h : s.Legal) (e : Exc) :
    tstateCcr (trapFrame e s).tstate = s.ccr ∧ tstateAsi (trapFrame e s).tstate = s.asi ∧
      tstatePstate (trapFrame e s).tstate = s.pstate ∧
      tstateCwp (trapFrame e s).tstate = s.cwp :=
  ⟨tstateCcr_packTstate .., tstateAsi_packTstate ..,
    (tstatePstate_packTstate ..).trans h.pstate, tstateCwp_packTstate ..⟩

end

/-! ### CWP by the trap type (R313) -/

section
variable (e : Exc) (s : State)

/-- R313's table read by trap type: clean_window is 0x024, the spills lie in 0x080 to 0x0BF and the
fills in 0x0C0 to 0x0FF. -/
theorem trapCwp_eq :
    trapCwp e s =
      if e.tt = 0x024 then windowPlus s.params s.cwp 1
      else if 0x080 ≤ e.tt ∧ e.tt ≤ 0x0BF then windowPlus s.params s.cwp (s.cansave.toNat + 2)
      else if 0x0C0 ≤ e.tt ∧ e.tt ≤ 0x0FF then windowMinusOne s.params s.cwp
      else s.cwp := by
  cases e
  case spillNormal n | spillOther n =>
    generalize htt : Exc.tt _ = tt
    simp only [Exc.tt] at htt
    rw [if_neg (by bv_omega), if_pos (by bv_omega)]
    rfl
  case fillNormal n | fillOther n =>
    generalize htt : Exc.tt _ = tt
    simp only [Exc.tt] at htt
    rw [if_neg (by bv_omega), if_neg (by bv_omega), if_pos (by bv_omega)]
    rfl
  case interruptLevel n | implementationDependent n | trapInstruction n =>
    generalize htt : Exc.tt _ = tt
    simp only [Exc.tt] at htt
    rw [if_neg (by bv_omega), if_neg (by bv_omega), if_neg (by bv_omega)]
    rfl
  all_goals rfl

/-- A trap that is no window trap leaves CWP. -/
theorem trapCwp_eq_self (h : e.tt < 0x024 ∨ (0x027 < e.tt ∧ e.tt < 0x080) ∨ 0x0FF < e.tt) :
    trapCwp e s = s.cwp := by
  rw [trapCwp_eq, if_neg (by bv_omega), if_neg (by bv_omega), if_neg (by bv_omega)]

/-- The windows that the window traps go to, by number (R313). -/
theorem trapCwp_window (hp : s.params.wf) :
    (e.tt = 0x024 → (trapCwp e s).toNat = (s.cwp.toNat + 1) % s.params.nwindows) ∧
      (0x080 ≤ e.tt → e.tt ≤ 0x0BF →
        (trapCwp e s).toNat = (s.cwp.toNat + s.cansave.toNat + 2) % s.params.nwindows) ∧
      (0x0C0 ≤ e.tt → e.tt ≤ 0x0FF →
        (trapCwp e s).toNat = (s.cwp.toNat + s.params.nwindows - 1) % s.params.nwindows) := by
  have hpos : 1 ≤ s.params.nwindows := le_trans (by decide) hp.1
  rw [trapCwp_eq]
  refine ⟨fun h => ?clean, fun hlow hhigh => ?spill, fun hlow hhigh => ?fill⟩
  case clean => rw [if_pos h, windowPlus_toNat hp]
  case spill =>
    rw [if_neg (by bv_omega), if_pos ⟨hlow, hhigh⟩, windowPlus_toNat hp, Nat.add_assoc]
  case fill =>
    rw [if_neg (by bv_omega), if_neg (by bv_omega), if_pos ⟨hlow, hhigh⟩, windowMinusOne,
      windowPlus_toNat hp, Nat.add_sub_assoc hpos]

end

/-! ### PSTATE (R372, R422) -/

/-- The fields of PSTATE that a trap sets are read off its low bits. -/
theorem pstateBit_of_low {v : BitVec 12} {n k : Nat} {x : BitVec n} (h : v.extractLsb' 0 n = x)
    (hk : k < n) : v.getLsbD k = x.getLsbD k := by
  rw [← h, BitVec.getLsbD_extractLsb', decide_eq_true hk, Bool.true_and, Nat.zero_add]

section
variable (v : BitVec 12)

/-- RED 0, PEF 1, AM 0, PRIV 1, IE 0, AG 1 (R372). -/
theorem trapPstate_low : (trapPstate v).extractLsb' 0 6 = 0b010101 :=
  BitVec.extractLsb'_append_eq_of_add_le (by omega)

/-- PID1 and PID0 stay (R372). -/
theorem trapPstate_pid : (trapPstate v).extractLsb' 10 2 = v.extractLsb' 10 2 := by
  unfold trapPstate
  repeat rw [BitVec.extractLsb'_append_eq_of_le (by omega)]
  exact BitVec.extractLsb'_eq_self

/-- TLE stays, and CLE takes it (R372). -/
theorem trapPstate_endian :
    (trapPstate v).getLsbD 8 = v.getLsbD 8 ∧ (trapPstate v).getLsbD 9 = v.getLsbD 8 := by
  have hbit : (v.extractLsb' 8 1).getLsbD 0 = v.getLsbD 8 := BitVec.getLsbD_extractLsb' ..
  rw [← hbit]
  unfold trapPstate
  constructor <;> simp only [BitVec.getLsbD_append] <;> rfl

end

/-! ### The trap vector (R373) -/

theorem toNat_append_eq_add {n m : Nat} (x : BitVec n) (y : BitVec m) :
    (x ++ y).toNat = x.toNat * 2 ^ m + y.toNat := by
  rw [BitVec.toNat_append, ← Nat.shiftLeft_add_eq_or_of_lt y.isLt, Nat.shiftLeft_eq]

/-- The address of a trap vector as a sum, as TBA's low bits are zero. -/
theorem trapVector_eq_add {tba : Word} (htba : tba.extractLsb' 0 15 = 0) (tl : BitVec 3)
    (tt : BitVec 9) :
    trapVector tba tl tt = tba + (if tl = 0 then 0 else 0x4000) + 32 * tt.setWidth 64 := by
  have htba : tba.toNat % 2 ^ 15 = 0 := by
    have h := congrArg BitVec.toNat htba
    rwa [BitVec.extractLsb'_toNat] at h
  have haddr := tba.isLt
  have hhalf : (if tl = 0 then 0 else 0x4000 : Word).toNat
      = (BitVec.ofBool (decide (tl ≠ 0))).toNat * 2 ^ 14 := by
    by_cases htl : tl = 0
    · rw [if_pos htl, decide_eq_false (not_not.2 htl)]
      rfl
    · rw [if_neg htl, decide_eq_true htl]
      rfl
  have hbit := (BitVec.ofBool (decide (tl ≠ 0))).isLt
  have htt := tt.isLt
  apply BitVec.eq_of_toNat_eq
  rw [BitVec.toNat_add, BitVec.toNat_add, BitVec.toNat_mul, hhalf,
    BitVec.toNat_setWidth_of_le (by decide), show (32 : Word).toNat = 32 from rfl]
  simp only [trapVector, toNat_append_eq_add, BitVec.extractLsb'_toNat,
    Nat.shiftRight_eq_div_pow, show (0#5).toNat = 0 from rfl]
  omega

/-- Settles O52: the state saved and the fields of PSTATE are those of the normal entry, from a state
in which only FSR may have changed. -/
theorem normalTrapEntry : Obligations.NormalTrapEntry := by
  unfold Obligations.NormalTrapEntry
  intro s e hlegal hreset hred htl t saved vector
  have hbelow : s.tl.toNat < s.params.maxtl := by omega
  have ht : t = normalTrap e { s with fsr := (recordFp e s).fsr } :=
    takeTrap_eq_normalTrap hreset hred htl
  have hvector : trapVector s.tba s.tl e.tt = vector := trapVector_eq_add hlegal.tba s.tl e.tt
  have hsaved : saved = trapFrame e s := takeTrap_saved hbelow
  have hpstate : t.pstate = trapPstate s.pstate := congrArg State.pstate ht
  obtain ⟨hccr, hasi, hsavedPstate, hcwp⟩ := trapFrame_tstate_of_legal hlegal e
  have low {k : Nat} (hk : k < 6) : t.pstate.getLsbD k = (0b010101 : BitVec 6).getLsbD k := by
    rw [hpstate]
    exact pstateBit_of_low (trapPstate_low _) hk
  obtain ⟨htle, hcle⟩ := trapPstate_endian s.pstate
  rw [← hpstate] at htle hcle
  rw [hsaved]
  refine ⟨?frame, hccr, hasi, hsavedPstate, hcwp, fun ham => ?full, fun ham => ?masked, rfl,
    fun n => takeTrap_otherLevels hbelow, ?mm, low (by decide), low (by decide), low (by decide),
    low (by decide), low (by decide), low (by decide), hcle, htle, ?pid, fun htt => ?cwp,
    fun h21 h22 => ?fsr⟩
  case frame =>
    rw [ht, ← hvector]
    rfl
  case full => exact ⟨maskAddr_of_am_clear ham _, maskAddr_of_am_clear ham _⟩
  case masked => exact ⟨maskAddr_of_am_set ham _, maskAddr_of_am_set ham _⟩
  case mm => exact (congrArg (BitVec.extractLsb' 6 2) hpstate).trans (mm_trapPstate _)
  case pid => exact (congrArg (BitVec.extractLsb' 10 2) hpstate).trans (trapPstate_pid _)
  case cwp => exact (takeTrap_cwp_below hbelow).trans (trapCwp_eq_self e s htt)
  case fsr => exact (takeTrap_fsr_below e hbelow).trans (recordFp_fsr_of_tt h21 h22)

/-! ### RED_state entry (R374, R420 to R422) -/

/-- The offset of the RED_state vector by the trap type, for all but power-on reset (R420). -/
theorem redVector_eq {e : Exc} (h : e ≠ .powerOnReset) :
    e.redVector.setWidth 64 =
      if e.tt = 0x002 then (0x40 : Word) else if e.tt = 0x003 then 0x60
      else if e.tt = 0x004 then 0x80 else 0xA0 := by
  cases e
  case powerOnReset => exact absurd rfl h
  case interruptLevel n | implementationDependent n | spillNormal n | spillOther n | fillNormal n |
      fillOther n | trapInstruction n =>
    generalize htt : Exc.tt _ = tt
    simp only [Exc.tt] at htt
    rw [if_neg (by bv_omega), if_neg (by bv_omega), if_neg (by bv_omega)]
    rfl
  all_goals rfl

/-- Settles O53: the entry is the one of every trap to RED_state, from a state in which only FSR may
have changed; trap types tell the vector and the window. -/
theorem redStateEntry : Obligations.RedStateEntry := by
  unfold Obligations.RedStateEntry
  intro s e hlegal hpor hbelow henters t saved offset window
  have ht : t = redTrap e { s with fsr := (recordFp e s).fsr } :=
    takeTrap_eq_redTrap hbelow henters
  obtain ⟨hlevel, -⟩ : t.tl = s.tl + 1 ∧ _ := takeTrap_below e s hbelow
  have hpc : redVectorAddr s.params e.redVector = s.params.rstvaddr + offset := by
    rw [redVectorAddr_eq_add hlegal.params, redVector_eq hpor]
  have hsaved : saved = trapFrame e s := takeTrap_saved hbelow
  have hpstate : t.pstate =
      redPstate s.pstate (freeTle s.draws) (freePid s.draws) &&& pstateMask s.params :=
    congrArg State.pstate ht
  obtain ⟨hccr, hasi, hsavedPstate, hcwp⟩ := trapFrame_tstate_of_legal hlegal e
  have low {k : Nat} (hk : k < 8) : t.pstate.getLsbD k = (0x35 : BitVec 8).getLsbD k := by
    rw [hpstate]
    exact pstateBit_of_low ((and_pstateMask_low ..).trans (redPstate_low ..)) hk
  have hwindow : t.cwp = trapCwp e s := takeTrap_cwp_below hbelow
  obtain ⟨hclean, hspill, hfill⟩ := trapCwp_window e s hlegal.params
  rw [← hwindow] at hclean hspill hfill
  rw [hsaved]
  refine ⟨?frame, hccr, hasi, hsavedPstate, hcwp, rfl, rfl, rfl,
    fun n => takeTrap_otherLevels hbelow, ?mm, low (by decide), low (by decide), low (by decide),
    low (by decide), low (by decide), low (by decide), ?cle, hclean, hspill, hfill,
    fun htt => hwindow.trans (trapCwp_eq_self e s htt), fun h21 h22 => ?fsr⟩
  case frame =>
    rw [← hlevel, ← hpc, ht]
    rfl
  case mm =>
    show t.pstate.extractLsb' 6 2 = 0
    rw [hpstate, mm_and_pstateMask, mm_redPstate]
  case cle =>
    show t.pstate.getLsbD 9 = _
    rw [hpstate, and_pstateMask_cle]
    exact redPstate_cle ..
  case fsr => exact (takeTrap_fsr_below e hbelow).trans (recordFp_fsr_of_tt h21 h22)

end Sys2Proof.Machine
end

section
/-! SUPPORT. The families 60_exceptions and 70_reset_and_hazards: returning from a trap (R378), where the
machine stops (R375; 92_eei_decisions.md D12, D19, D20), and power-on reset (R423). -/

namespace Sys2Proof.Machine

open Sys2Proof.Config

/-! ### Returning from a trap (R378) -/

section
variable {s : State}

/-- In privileged mode and above level 0 a return goes on where the saved CWP is in range and the saved
PSTATE.MM is not reserved. -/
theorem returnFromTrap_completes (done : Bool) (hpriv : s.priv = true) (htl : s.tl ≠ 0)
    (hcwp : (tstateCwp (s.trapRegs s.tl).tstate).toNat < s.params.nwindows)
    (hmm : (tstatePstate (s.trapRegs s.tl).tstate).extractLsb' 6 2 ≠ 3) :
    returnFromTrap done s = .next (restoreTrap done s) := by
  unfold returnFromTrap
  rw [raiseFirst_inPrivileged hpriv, raiseFirst_cons, decide_eq_false htl, if_neg (by decide),
    raiseFirst_nil, if_neg (by omega), if_neg hmm]

/-- An address as the machine uses it, by PSTATE.AM (10_state.md R26). -/
theorem maskAddr_eq (a : Word) :
    s.maskAddr a = if s.am then (a.extractLsb' 0 32).setWidth 64 else a := by
  split
  · exact maskAddr_of_am_set ‹_› a
  · exact maskAddr_of_am_clear (Bool.eq_false_iff.2 ‹_›) a

/-- Returning right after a normal entry from a legal state restores all that the entry changed but the
level of the trap stack. -/
theorem restoreTrap_normalTrap (done : Bool) (e : Exc) (h : s.Legal) :
    restoreTrap done (normalTrap e s) = { s with
      trapStack := (normalTrap e s).trapStack
      pc := if done then s.maskAddr s.npc else s.maskAddr s.pc
      npc := if done then s.maskAddr s.npc + 4 else s.maskAddr s.npc } := by
  have hsaved : (normalTrap e s).trapRegs (s.tl + 1) = trapFrame e s :=
    (normalTrap_trapRegs ..).trans (if_pos rfl)
  obtain ⟨hccr, hasi, hpstate, hcwp⟩ := trapFrame_tstate_of_legal h e
  have hlevel : s.tl + 1 - 1 = s.tl := BitVec.add_sub_cancel ..
  simp only [restoreTrap, normalTrap_tl, normalTrap_params, hsaved, hccr, hasi, hpstate, hcwp,
    h.pstate, hlevel]
  rfl

/-- Both returns go on right after a normal entry from a legal state. -/
theorem returnFromTrap_normalTrap (done : Bool) (e : Exc) (h : s.Legal)
    (htl : s.tl.toNat < s.params.maxtl) :
    returnFromTrap done (normalTrap e s) = .next (restoreTrap done (normalTrap e s)) := by
  have hsaved : (normalTrap e s).trapRegs (normalTrap e s).tl = trapFrame e s :=
    (normalTrap_trapRegs ..).trans (if_pos rfl)
  obtain ⟨-, -, hpstate, hcwp⟩ := trapFrame_tstate_of_legal h e
  have hpriv : (normalTrap e s).priv = true := pstateBit_of_low (trapPstate_low _) (by decide)
  have hlevel : (normalTrap e s).tl ≠ 0 := by
    obtain ⟨-, -, -, hmaxtl, -⟩ := h.params
    show s.tl + 1 ≠ 0
    bv_omega
  refine returnFromTrap_completes done hpriv hlevel ?_ ?_
  · rw [hsaved, hcwp]
    exact h.cwp
  · rw [hsaved, hpstate]
    exact h.mm

end

/-- Settles O55: the entry is normal from a legal state in which only FSR may have changed, and what it
saves is what the return restores. -/
theorem returnFromTrapResumes : Obligations.ReturnFromTrapResumes := by
  unfold Obligations.ReturnFromTrapResumes
  intro s e hlegal hreset hred htl t pc npc
  have hbelow : s.tl.toNat < s.params.maxtl := by omega
  have ht : t = normalTrap e (recordFp e s) := takeTrap_normal hreset hred htl
  have hpc : s.maskAddr s.pc = pc := maskAddr_eq s.pc
  have hnpc : s.maskAddr s.npc = npc := maskAddr_eq s.npc
  have returns (done : Bool) : returnFromTrap done t = .next { s with
      trapStack := t.trapStack
      fsr := t.fsr
      pc := if done then s.maskAddr s.npc else s.maskAddr s.pc
      npc := if done then s.maskAddr s.npc + 4 else s.maskAddr s.npc } := by
    have hrecorded : (recordFp e s).Legal := hlegal.recordFp e
    rw [ht, returnFromTrap_normalTrap done e hrecorded (by simpa using hbelow),
      restoreTrap_normalTrap done e hrecorded, recordFp_frame]
    rfl
  rw [← hpc, ← hnpc]
  exact ⟨returns false, returns true⟩

/-! ### Where no instruction can be fetched (R375, D12, D19, D20) -/

section
variable {s : State}

theorem step_of_fetchFault {f : Fault} (h : fetchFault s = some f) : step s = .fault f := by
  unfold step
  rw [h]

/-- In error_state the machine is stuck (R375). -/
theorem step_errorState (h : s.errorState = true) : step s = .fault .stuckInErrorState :=
  step_of_fetchFault (if_pos h)

theorem fetchFault_outsideText (herror : s.errorState = false) (htext : s.inText s.pc = false) :
    fetchFault s = if s.launch.exit = some (s.maskAddr s.pc) then some (.programEnd s.pc)
      else some (.fetchOutsideText s.pc) := by
  unfold fetchFault
  rw [herror, htext]
  rfl

theorem fetchFault_noMemory (herror : s.errorState = false) (htext : s.inText s.pc = true)
    (hcode : s.codeExists s.pc = false) : fetchFault s = some (.noMemoryAtAddress s.pc) := by
  unfold fetchFault
  rw [herror, htext, hcode]
  rfl

end

/-- Settles O6: each condition of the fetch, in order, names its fault. -/
theorem stepStopsWithoutAnInstruction : Obligations.StepStopsWithoutAnInstruction := by
  unfold Obligations.StepStopsWithoutAnInstruction
  intro s
  refine ⟨step_errorState, fun herror htext => ⟨fun hexit => ?atExit, fun hexit => ?elsewhere⟩,
    fun herror htext hcode => step_of_fetchFault (fetchFault_noMemory herror htext hcode)⟩
  case atExit =>
    exact step_of_fetchFault ((fetchFault_outsideText herror htext).trans (if_pos hexit))
  case elsewhere =>
    exact step_of_fetchFault ((fetchFault_outsideText herror htext).trans (if_neg hexit))

/-- Settles O54: at MAXTL a trap is the flag alone, and the flag stops every step. -/
theorem trapAtMaxtlEntersErrorState : Obligations.TrapAtMaxtlEntersErrorState := by
  unfold Obligations.TrapAtMaxtlEntersErrorState
  intro s e _ htl
  have hmax := takeTrap_max e s htl.ge
  exact ⟨hmax, step_errorState (congrArg State.errorState hmax)⟩

/-! ### Power-on reset (R423) -/

/-- Settles O9: the state after reset is a literal, so each clause is evaluated. -/
theorem powerOnResetValues : Obligations.PowerOnResetValues := by
  unfold Obligations.PowerOnResetValues
  exact ⟨rfl, rfl, rfl, rfl, rfl, rfl⟩

end Sys2Proof.Machine
end
